-- ==== Sys2Proof/Word.lean ====
section
/-! DEFINITION. The word types of the block and nothing else: the widths of `spec/30_encoding.md`
rule R110 and the notation of `spec/00_scope.md` rule R8 (bit 0 is the least significant bit). -/

namespace Sys2Proof

/-- `u8` of rule R8; also the eight-bit pattern of an `s8`. -/
abbrev Byte := BitVec 8

/-- `u16` of rule R8; also the sixteen-bit pattern of an `s16`. -/
abbrev Half := BitVec 16

/-- A 3-bit mode code (rule R126). -/
abbrev ModeCode := BitVec 3

/-- `PS2F` and `TXW` (rules R111, R112): one PS/2 line frame, bit `i` the `i`-th bit on the line. -/
abbrev LineFrame := BitVec 11

/-- `RXW` (rule R113): the tag in bit 8, the byte in bits 7..0. -/
abbrev RxWord := BitVec 9

/-- `OPW` (rule R130): the 38-bit operation word. -/
abbrev OpWord := BitVec 38

/-- `REQ8` and `RESP8` (rules R116, R117): eight bytes in arrival or transmission order (rule R88). -/
abbrev Frame := Vector Byte 8

end Sys2Proof
end

