-- ==== Sys2Proof/Config.lean ====
section
/-! DEFINITION. The implementation parameters of `spec/00_scope.md` rule R7 as one record of plain data, their
default values, and the constraints the spec puts on an override.

The machine's state carries a `Config` that no operation changes (assumption log 3): a statement about every
state is a statement about every setting of the parameters. Parameters whose ground in rule R7 is the source
itself (two lines, eleven-bit frames, six key slots, eight-byte frames, six checksummed bytes) are fixed by the
types (assumption log 16). -/

namespace Sys2Proof

/-- `KEY_OVERFLOW_POLICY` (rules R7, R214, R215; decision D26). -/
inductive KeyPolicy where
  | overwriteSlot0
  | dropNew
deriving DecidableEq, Repr

/-- `CKSUM16` (rules R7, R276; decision D40): the default, the reflected CRC-16, or some other function of the
bytes. -/
inductive CksumFn where
  | crc16
  /-- Any other function: the `k`-th of the uninterpreted family `Config.substituteCksum`. -/
  | substitute (k : Nat)
deriving DecidableEq, Repr

/-- The eleven command codes `CMD_*` (rule R122). -/
structure CmdCodes where
  ping : Byte
  rpt : Byte
  setKbd : Byte
  setMouse : Byte
  setConnected : Byte
  clearHid : Byte
  key : Byte
  mouseAbs : Byte
  mouseBtn : Byte
  mouseWheel : Byte
  mouseRel : Byte
deriving DecidableEq, Repr

/-- The codes as a list, for the one constraint on an override: they are pairwise distinct (rule R122). -/
def CmdCodes.toList (k : CmdCodes) : List Byte :=
  [k.ping, k.rpt, k.setKbd, k.setMouse, k.setConnected, k.clearHid, k.key, k.mouseAbs, k.mouseBtn,
    k.mouseWheel, k.mouseRel]

/-- The flag masks and plain codes `ST_*` of the status byte (rule R125). -/
structure StatusCodes where
  ok : Byte
  resetReq : Byte
  mouseOffline : Byte
  kbdOffline : Byte
  noneYet : Byte
  cksumErr : Byte
  invalid : Byte
  timeout : Byte
deriving DecidableEq, Repr

/-- The eight single-bit masks of a byte. -/
def singleBits : List Byte := [0x01, 0x02, 0x04, 0x08, 0x10, 0x20, 0x40, 0x80]

/-- The constraints of rule R125: the four plain codes are distinct, non-zero and have bit 7 clear; the four flag
masks are distinct single bits with `ST_OK = 0x80`. -/
abbrev StatusCodes.Wf (t : StatusCodes) : Prop :=
  [t.noneYet, t.cksumErr, t.invalid, t.timeout].Nodup ∧
  (∀ c ∈ [t.noneYet, t.cksumErr, t.invalid, t.timeout], c ≠ 0 ∧ c.getLsbD 7 = false) ∧
  [t.ok, t.resetReq, t.mouseOffline, t.kbdOffline].Nodup ∧
  (∀ c ∈ [t.ok, t.resetReq, t.mouseOffline, t.kbdOffline], c ∈ singleBits) ∧
  t.ok = 0x80

/-- The keyboard modes (rule R39). -/
inductive KbdMode where
  | none
  | usb
  | ps2
deriving DecidableEq, Repr

/-- The mouse modes (rule R40). -/
inductive MouseMode where
  | none
  | usbAbs
  | usbRel
  | ps2
  | usbLegacyAbs
deriving DecidableEq, Repr

/-- The 3-bit mode codes of the two tables of rule R126. -/
structure ModeCodes where
  kbdNone : ModeCode
  kbdUsb : ModeCode
  kbdPs2 : ModeCode
  mNone : ModeCode
  mUsbAbs : ModeCode
  mUsbRel : ModeCode
  mPs2 : ModeCode
  mUsbLegacyAbs : ModeCode
deriving DecidableEq, Repr

/-- One code names one mode (decision D36: "one value per mode"). -/
abbrev ModeCodes.Wf (m : ModeCodes) : Prop :=
  [m.kbdNone, m.kbdUsb, m.kbdPs2].Nodup ∧ [m.mNone, m.mUsbAbs, m.mUsbRel, m.mPs2, m.mUsbLegacyAbs].Nodup

/-- Where the two 3-bit mode codes stand in the `active` byte and in a boot mask: the lowest bit of each field (rules
R6, R126, R361; decision D36). The other bits of the byte are 0, and ignored in a boot mask. -/
structure MaskLayout where
  kbdLo : Nat
  mouseLo : Nat
deriving DecidableEq, Repr

/-- Both fields lie in the byte and do not overlap. DESIGN CHOICE, assumption log 12: the spec calls the layout a
parameter and names no constraint on another one. -/
abbrev MaskLayout.Wf (l : MaskLayout) : Prop :=
  l.kbdLo + 3 ≤ 8 ∧ l.mouseLo + 3 ≤ 8 ∧ (l.kbdLo + 3 ≤ l.mouseLo ∨ l.mouseLo + 3 ≤ l.kbdLo)

/-- Where two passages of the spec differ and `spec/90_conflicts.md` names neither: which of the two readings the
machine takes. The default is what the spec's own ruling on the point says; the other reading stays beside it, so that a
statement for every `Config` holds under both (DESIGN CHOICE, assumption logs 24, 25). -/
structure Readings where
  /-- `idle_cnt` on leaving `IDLE` to transmit: zeroed, as rule R168 and decision D8 say, or else kept, as the
  pseudocode and the example of rule R156 and vector VE3 have it. -/
  startZeroesIdle : Bool
  /-- The operands of `CMD_MOUSE_BTN` in mode `M_PS2`: forwarded whole, as the pseudocode of rule R299 has it, or else
  without bits 7..5, which entry U14 of `spec/93_implementation_defined.md` says have no effect. -/
  wholeButtons : Bool
deriving DecidableEq, Repr

/-- The parameters of rule R7, and the readings of the spec. -/
structure Config where
  /-- `RESEND_BYTE` (rule R129). -/
  resendByte : Byte
  byteqDepth : Nat
  packMax : Nat
  packqDepth : Nat
  txfDepth : Nat
  rxfDepth : Nat
  idleHold : Nat
  keyPolicy : KeyPolicy
  hystMs : Nat
  linkTimeoutMs : Nat
  /-- `ABS_MAX`, the top of the absolute-mouse logical range (rules R7, R237; decision D29). -/
  absMax : Half
  reqMagic : Byte
  respMagic : Byte
  cksum : CksumFn
  cmd : CmdCodes
  st : StatusCodes
  modes : ModeCodes
  layout : MaskLayout
  /-- `AVAIL`, fixed at boot (rules R42, R127). -/
  avail : Byte
  /-- `HAS_USB`, `HAS_PS2`, `HAS_USB_LEGACY`: the masks of the three capability bits (rule R127). -/
  hasUsb : Byte
  hasPs2 : Byte
  hasUsbLegacy : Byte
  reading : Readings
deriving DecidableEq, Repr

/-- What is asked of an override. From the spec: every capacity, `IDLE_HOLD` and `HYST_MS` are at least 1 (rule R7,
entries U7 and U10 of `spec/93_implementation_defined.md`), the command codes are distinct (R122), and the status codes
keep the constraints of R125. The model's own choice, where the spec names no constraint (DESIGN CHOICE, assumption log
12): distinct mode codes, a mask layout whose fields do not overlap, distinct single-bit capability masks. The spec sets
no least `LINK_TIMEOUT_MS` (entry U5) and none is asked: 0 is legal; and `TXF_DEPTH >= 2`, which U10 recommends, is not
asked either (both: assumption log 23). `ABS_MAX` is any value (log 16). -/
abbrev Config.Wf (c : Config) : Prop :=
  (1 ≤ c.byteqDepth ∧ 1 ≤ c.packMax ∧ 1 ≤ c.packqDepth ∧ 1 ≤ c.txfDepth ∧ 1 ≤ c.rxfDepth) ∧
  (1 ≤ c.idleHold ∧ 1 ≤ c.hystMs) ∧
  c.cmd.toList.Nodup ∧ c.st.Wf ∧ (c.modes.Wf ∧ c.layout.Wf) ∧
  ([c.hasUsb, c.hasPs2, c.hasUsbLegacy].Nodup ∧ ∀ m ∈ [c.hasUsb, c.hasPs2, c.hasUsbLegacy], m ∈ singleBits)

namespace Config

/-- The substitutes for `CKSUM16`: "any function `bytes -> u16` may be substituted" (rule R276). Nothing is known
of them but that they are functions of the bytes (assumption log 4). -/
opaque substituteCksum : Nat → List Byte → Half

/-- The scaled position under an `ABS_MAX` other than 32767, before it is held to `0..ABS_MAX`: a free value. Rule R237
gives its formula for 32767 alone and states no result for another top (DESIGN CHOICE, assumption log 16). -/
opaque substituteScale : Half → Half → Half

/-- The default codes of rule R122. -/
def defaultCmd : CmdCodes where
  ping := 0x01
  rpt := 0x02
  setKbd := 0x03
  setMouse := 0x04
  setConnected := 0x05
  clearHid := 0x10
  key := 0x11
  mouseAbs := 0x12
  mouseBtn := 0x13
  mouseWheel := 0x14
  mouseRel := 0x15

/-- The default flag masks and codes of rule R125. -/
def defaultStatus : StatusCodes where
  ok := 0x80
  resetReq := 0x40
  mouseOffline := 0x10
  kbdOffline := 0x08
  noneYet := 0x24
  cksumErr := 0x40
  invalid := 0x45
  timeout := 0x48

/-- The mode codes of rule R126. -/
def defaultModes : ModeCodes where
  kbdNone := 0
  kbdUsb := 1
  kbdPs2 := 3
  mNone := 0
  mUsbAbs := 1
  mUsbRel := 2
  mPs2 := 3
  mUsbLegacyAbs := 4

/-- The layout `active = {00, mouse[2:0], kbd[2:0]}` (rule R126, decision D36). -/
def defaultLayout : MaskLayout where
  kbdLo := 0
  mouseLo := 3

/-- The readings of the machine in `State.reset`, each the spec's ruling on the point: the idle count zeroed on leaving
`IDLE` (decision D8, rule R168), and bits 7..5 of a button without effect (entry U14) (assumption logs 24, 25). -/
def defaultReading : Readings where
  startZeroesIdle := true
  wholeButtons := false

/-- The defaults of rule R7; `AVAIL = 0x03` is the value the spec's test vectors use (assumption log 5). -/
def default : Config where
  resendByte := 0xFE
  byteqDepth := 9
  packMax := 9
  packqDepth := 16
  txfDepth := 4
  rxfDepth := 4
  idleHold := 5
  keyPolicy := .overwriteSlot0
  hystMs := 50
  linkTimeoutMs := 100
  absMax := 0x7FFF
  reqMagic := 0x33
  respMagic := 0x34
  cksum := .crc16
  cmd := defaultCmd
  st := defaultStatus
  modes := defaultModes
  layout := defaultLayout
  avail := 0x03
  hasUsb := 0x01
  hasPs2 := 0x02
  hasUsbLegacy := 0x04
  reading := defaultReading

/-- `BOOT_ACTIVE` of the one state `State.reset` (rule R7: "argument of `RESET`"): keyboard USB, mouse
USB-absolute, the mask of the spec's worked session (rule R310). DESIGN CHOICE, assumption log 6, unsafe. -/
def bootActive : Byte := 0x09

end Config

end Sys2Proof
end

