-- ==== Sys2Proof/Machine/Operands.lean ====
section
/-! DEFINITION. The pure functions on words that every other layer shares: parity and the line frame
(`spec/40_ps2_framer.md` section 1), the received word, the checksum (`spec/45_frame_validator.md` section 3),
operand assembly (`spec/30_encoding.md` rule R118), the mode tables (R126, R127), mouse scaling and single-bit
writes. -/

namespace Sys2Proof.Machine

/-- Bit `i` of `v` set to `b` (the assignment `v[i] <- b` of rule R9). -/
def setBit {n : Nat} (v : BitVec n) (i : Nat) (b : Bool) : BitVec n :=
  if b then v ||| (1#n <<< i) else v &&& ~~~(1#n <<< i)

/-- `odd_parity` (rule R150). -/
def oddParity (b : Byte) : Bool :=
  true ^^ b.getLsbD 0 ^^ b.getLsbD 1 ^^ b.getLsbD 2 ^^ b.getLsbD 3 ^^ b.getLsbD 4 ^^ b.getLsbD 5 ^^
    b.getLsbD 6 ^^ b.getLsbD 7

/-- The `PS2F` word with a given parity bit: stop 1, parity, data, start 0 (rule R111). -/
def lineFrame (par : Bool) (data : Byte) : LineFrame := 1#1 ++ BitVec.ofBool par ++ data ++ 0#1

/-- `ps2_frame` (rule R151). -/
def ps2Frame (b : Byte) : LineFrame := lineFrame (oddParity b) b

/-- The data bits of a line frame, `f[8:1]` (rule R152). -/
def frameData (f : LineFrame) : Byte := f.extractLsb' 1 8

/-- The parity bit of a line frame, `f[9]` (rule R111). -/
def framePar (f : LineFrame) : Bool := f.getLsbD 9

/-- `frame_ok` of rule R152: start bit 0 and stop bit 1. -/
def frameOk (f : LineFrame) : Bool := !f.getLsbD 0 && f.getLsbD 10

/-- `ps2_unframe` (rule R152): the data, `par_ok` and `frame_ok`. -/
def ps2Unframe (f : LineFrame) : Byte × Bool × Bool :=
  (frameData f, framePar f == oddParity (frameData f), frameOk f)

/-- An `RXW` word from its tag and its byte (rule R113). -/
def rxWord (tag : Bool) (data : Byte) : RxWord := BitVec.ofBool tag ++ data

/-- The tag of a received word (rule R190). -/
def rxTag (w : RxWord) : Bool := w.getLsbD 8

/-- The byte of a received word (rule R190). -/
def rxByte (w : RxWord) : Byte := w.extractLsb' 0 8

/-- One of the eight shifts of the default checksum (rule R276). -/
def crcShift (crc : Half) : Half :=
  if crc.getLsbD 0 then (crc >>> 1) ^^^ 0xA001#16 else crc >>> 1

/-- The default checksum's treatment of one byte (rule R276). -/
def crcByte (crc : Half) (c : Byte) : Half :=
  crcShift (crcShift (crcShift (crcShift (crcShift (crcShift (crcShift (crcShift (crc ^^^ c.setWidth 16))))))))

/-- The default `CKSUM16`: reflected CRC-16, polynomial `0xA001`, initial value `0xFFFF`, no final xor
(rule R276). -/
def crc16 (bytes : List Byte) : Half := bytes.foldl crcByte 0xFFFF#16

/-- `CKSUM16` as the parameters choose it (rules R7, R276). -/
def cksum16 (c : Config) (bytes : List Byte) : Half :=
  match c.cksum with
  | .crc16 => crc16 bytes
  | .substitute k => Config.substituteCksum k bytes

/-- The first six bytes of a frame, which the checksum covers (rule R116). -/
def ckBytes (f : Frame) : List Byte := [f[0], f[1], f[2], f[3], f[4], f[5]]

/-- The more significant byte of a 16-bit value. -/
def hiByte (v : Half) : Byte := v.extractLsb' 8 8

/-- The less significant byte of a 16-bit value. -/
def loByte (v : Half) : Byte := v.extractLsb' 0 8

/-- The checksum field of a frame, more significant byte first (rules R88, R116). -/
def frameCk (f : Frame) : Half := f[6] ++ f[7]

/-- `validate` (rule R275). -/
def validate (c : Config) (f : Frame) : Bool :=
  f[0] == c.reqMagic && frameCk f == cksum16 c (ckBytes f)

/-- `seal` (rule R277): six bytes and their checksum, more significant byte first. -/
def sealFrame (c : Config) (p0 p1 p2 p3 p4 p5 : Byte) : Frame :=
  #v[p0, p1, p2, p3, p4, p5, hiByte (cksum16 c [p0, p1, p2, p3, p4, p5]),
    loByte (cksum16 c [p0, p1, p2, p3, p4, p5])]

/-- `bool(a)` of rule R118. -/
def boolOf (a : Byte) : Bool := a != 0

/-- `mode3(a)` of rule R118: bits 2..0, the rest ignored. -/
def mode3 (a : Byte) : ModeCode := a.extractLsb' 0 3

/-- `s16(hi, lo)` of rule R118, as its 16-bit pattern. -/
def s16Of (hi lo : Byte) : Half := hi ++ lo

/-- An `s8` as one of the two 16-bit operands of a `ps2_mouse_event` (rules R11, R301, R302). -/
def sext16 (v : Byte) : Half := v.signExtend 16

/-- A `u8` as one of the two 16-bit operands of a `ps2_mouse_event` (rules R11, R299). -/
def zext16 (v : Byte) : Half := v.setWidth 16

/-- A button operand of `ps2_mouse_event`, zero-extended (rule R299): bits 7..5 without effect (entry U14), or
forwarded, by the machine's reading (assumption log 25). -/
def buttonOperand (c : Config) (v : Byte) : Half := zext16 (if c.reading.wholeButtons then v else v &&& 0x1F#8)

/-- The code of a keyboard mode (rule R126). -/
def kbdCode (c : Config) : KbdMode → ModeCode
  | .none => c.modes.kbdNone
  | .usb => c.modes.kbdUsb
  | .ps2 => c.modes.kbdPs2

/-- The code of a mouse mode (rule R126). -/
def mouseCode (c : Config) : MouseMode → ModeCode
  | .none => c.modes.mNone
  | .usbAbs => c.modes.mUsbAbs
  | .usbRel => c.modes.mUsbRel
  | .ps2 => c.modes.mPs2
  | .usbLegacyAbs => c.modes.mUsbLegacyAbs

/-- The keyboard mode a code names, or none where the code is undefined (rules R126, R135). -/
def decodeKbd (c : Config) (m : ModeCode) : Option KbdMode :=
  if m = c.modes.kbdNone then some .none
  else if m = c.modes.kbdUsb then some .usb
  else if m = c.modes.kbdPs2 then some .ps2
  else none

/-- The mouse mode a code names, or none where the code is undefined (rules R126, R135). -/
def decodeMouse (c : Config) (m : ModeCode) : Option MouseMode :=
  if m = c.modes.mNone then some .none
  else if m = c.modes.mUsbAbs then some .usbAbs
  else if m = c.modes.mUsbRel then some .usbRel
  else if m = c.modes.mPs2 then some .ps2
  else if m = c.modes.mUsbLegacyAbs then some .usbLegacyAbs
  else none

/-- Whether the capability mask has the capability `bit` (rule R127). -/
def hasCap (c : Config) (bit : Byte) : Bool := c.avail &&& bit != 0

/-- `available(mode)` for a keyboard mode (rule R127). -/
def kbdAvailable (c : Config) : KbdMode → Bool
  | .none => true
  | .usb => hasCap c c.hasUsb
  | .ps2 => hasCap c c.hasPs2

/-- `available(mode)` for a mouse mode (rule R127). -/
def mouseAvailable (c : Config) : MouseMode → Bool
  | .none => true
  | .usbAbs => hasCap c c.hasUsb
  | .usbRel => hasCap c c.hasUsb
  | .ps2 => hasCap c c.hasPs2
  | .usbLegacyAbs => hasCap c c.hasUsbLegacy

/-- The keyboard mode a code selects: defined and available (rules R257, R259), or none. -/
def selectKbd (c : Config) (m : ModeCode) : Option KbdMode := (decodeKbd c m).filter (kbdAvailable c)

/-- The mouse mode a code selects: defined and available (rules R258, R259), or none. -/
def selectMouse (c : Config) (m : ModeCode) : Option MouseMode := (decodeMouse c m).filter (mouseAvailable c)

/-- A mode code in its field of a mask byte, the other bits 0 (rule R126). -/
def fieldAt (code : ModeCode) (lo : Nat) : Byte := code.setWidth 8 <<< lo

/-- The mask byte that names two modes (rules R126, R308), under the layout the parameters give (rule R6). -/
def modeMask (c : Config) (k : KbdMode) (m : MouseMode) : Byte :=
  fieldAt (mouseCode c m) c.layout.mouseLo ||| fieldAt (kbdCode c k) c.layout.kbdLo

/-- The keyboard half of `decode_boot` (rule R361): the keyboard field of the boot mask, bits 2..0 by default. -/
def bootKbd (c : Config) (m : Byte) : KbdMode := (selectKbd c (m.extractLsb' c.layout.kbdLo 3)).getD .none

/-- The mouse half of `decode_boot` (rule R361): the mouse field of the boot mask, bits 5..3 by default. -/
def bootMouse (c : Config) (m : Byte) : MouseMode := (selectMouse c (m.extractLsb' c.layout.mouseLo 3)).getD .none

/-- `usb_mouse` (rule R230). -/
def usbMouse : MouseMode → Bool
  | .usbAbs => true
  | .usbRel => true
  | .usbLegacyAbs => true
  | .none => false
  | .ps2 => false

/-- `abs_mouse` (rule R230). -/
def absMouse : MouseMode → Bool
  | .usbAbs => true
  | .usbLegacyAbs => true
  | .usbRel => false
  | .none => false
  | .ps2 => false

/-- `rel_mouse` (rule R230). -/
def relMouse : MouseMode → Bool
  | .usbRel => true
  | .usbAbs => false
  | .usbLegacyAbs => false
  | .none => false
  | .ps2 => false

/-- The formula of rule R237, `(v + 32768) >> 1` of the `s16` pattern `v`, computed exactly and then narrowed. -/
def scaleFull (v : Half) : Half := BitVec.ofInt 16 ((v.toInt + 32768) / 2)

/-- `scale_abs` (rule R237), always in `0..ABS_MAX`: the rule's formula under its `ABS_MAX` of 32767, and a free
value of that range under another (assumption log 16). -/
def scaleAbs (c : Config) (v : Half) : Half :=
  if c.absMax = 0x7FFF#16 then scaleFull v
  else if Config.substituteScale c.absMax v ≤ c.absMax then Config.substituteScale c.absMax v
  else c.absMax

/-- A modifier key code, `0xE0..0xE7` (rule R134). -/
def isModifier (code : Byte) : Bool := 0xE0#8 ≤ code && code ≤ 0xE7#8

/-- The level of an open-collector wire: both sides must release it (rule R153). -/
def wireLevel (host device : Bool) : Bool := host && device

end Sys2Proof.Machine
end

