-- ==== Sys2Proof/Syntax.lean ====
section
/-! DEFINITION. The instruction syntax: one constructor of `Instr` per row of `spec/opcode_table.json`,
in the table's order. -/

namespace Sys2Proof

/-- The two PS/2 lines (`spec/00_scope.md` rule R3): device index 0 is the keyboard line, 1 the mouse line. -/
inductive Dev where
  | line0
  | line1
deriving DecidableEq, Repr

/-- The instructions: the operations of the operation word (`OPW`), the classes of a link request frame
(`REQ8`), the classes of a received word (`RXW`) and the line frame (`PS2F`).
The device operand of an `RXW` or `PS2F` constructor is the line whose FIFO the word is taken from: the word
itself does not hold it. -/
inductive Instr where
  /-- `PS2_INIT(d)`, rule R180. -/
  | ps2Init (d : Dev)
  /-- `PS2_ENQ(d, b)`, rule R182. -/
  | ps2Enq (d : Dev) (b : Byte)
  /-- `PS2_TASK(d)`, rule R183. -/
  | ps2Task (d : Dev)
  /-- `ENG_STEP(d, h_clk, h_data)`, rule R154; `true` is a released (high) wire. -/
  | engStep (d : Dev) (hClk hData : Bool)
  /-- `HID_KEY(code, pressed)`, rule R210. -/
  | hidKey (code : Byte) (pressed : Bool)
  /-- `HID_MBTN(sel, st)`, rule R231. -/
  | hidMbtn (sel st : Byte)
  /-- `HID_MABS(x, y)`, rule R232; the operands are `s16` patterns. -/
  | hidMabs (x y : Half)
  /-- `HID_MREL(dx, dy)`, rule R233; the operands are `s8` patterns. -/
  | hidMrel (dx dy : Byte)
  /-- `HID_MWHEEL(h, v)`, rule R234; the operands are `s8` patterns. -/
  | hidMwheel (h v : Byte)
  /-- `HID_CLEAR`, rule R256. -/
  | hidClear
  /-- `HID_TICK_MS(kbd_ready, mouse_ready)`, rule R250. -/
  | hidTickMs (kbdReady mouseReady : Bool)
  /-- `HID_SYNC(susp, kbd_ready, mouse_ready, kbd_ok, mouse_ok)`, rules R253 to R255. -/
  | hidSync (susp kbdReady mouseReady kbdOk mouseOk : Bool)
  /-- `LINK_BYTE(b)`, rule R270. -/
  | linkByte (b : Byte)
  /-- `LINK_TICK_MS`, rule R272. -/
  | linkTickMs
  /-- `OUT_SET_KBD(mode)`, rule R257. -/
  | outSetKbd (mode : ModeCode)
  /-- `OUT_SET_MOUSE(mode)`, rule R258. -/
  | outSetMouse (mode : ModeCode)
  /-- `LINK_RESYNC`, rule R274. -/
  | linkResync
  /-- `RESET(boot_active)`, rule R360. -/
  | reset (bootActive : Byte)
  /-- Reserved `op_sel` 0x00, rule R132. -/
  | reserved00
  /-- Reserved `op_sel` 0x05, rule R132. -/
  | reserved05
  /-- Reserved `op_sel` 0x06, rule R132. -/
  | reserved06
  /-- Reserved `op_sel` 0x07, rule R132. -/
  | reserved07
  /-- Reserved `op_sel` 0x15, rule R132. -/
  | reserved15
  /-- Reserved `op_sel` 0x16, rule R132. -/
  | reserved16
  /-- Reserved `op_sel` 0x17, rule R132. -/
  | reserved17
  /-- Reserved `op_sel` 0x18, rule R132. -/
  | reserved18
  /-- Reserved `op_sel` 0x19, rule R132. -/
  | reserved19
  /-- Reserved `op_sel` 0x1A, rule R132. -/
  | reserved1A
  /-- Reserved `op_sel` 0x1B, rule R132. -/
  | reserved1B
  /-- Reserved `op_sel` 0x1C, rule R132. -/
  | reserved1C
  /-- Reserved `op_sel` 0x1D, rule R132. -/
  | reserved1D
  /-- Reserved `op_sel` 0x1E, rule R132. -/
  | reserved1E
  /-- `CMD_PING`, rule R292. -/
  | cmdPing
  /-- `CMD_REPEAT`, rule R293. -/
  | cmdRepeat
  /-- `CMD_SET_KBD`, rule R294. -/
  | cmdSetKbd (mode : ModeCode)
  /-- `CMD_SET_MOUSE`, rule R295. -/
  | cmdSetMouse (mode : ModeCode)
  /-- `CMD_SET_CONNECTED`, rule R296. -/
  | cmdSetConnected
  /-- `CMD_CLEAR_HID`, rule R297. -/
  | cmdClearHid
  /-- `CMD_KEY`, rule R298. -/
  | cmdKey (code : Byte) (pressed : Bool)
  /-- `CMD_MOUSE_ABS`, rule R300; the operands are `s16` patterns. -/
  | cmdMouseAbs (x y : Half)
  /-- `CMD_MOUSE_BTN`, rule R299. -/
  | cmdMouseBtn (sel st : Byte)
  /-- `CMD_MOUSE_WHEEL`, rule R302; the operands are `s8` patterns. -/
  | cmdMouseWheel (h v : Byte)
  /-- `CMD_MOUSE_REL`, rule R301; the operands are `s8` patterns. -/
  | cmdMouseRel (dx dy : Byte)
  /-- A valid frame whose command byte is none of the eleven codes, rule R303. -/
  | cmdUnknown (cmd : Byte)
  /-- A frame with a wrong magic byte or checksum, rule R291; the operand is the whole frame. -/
  | frameInvalid (f : Frame)
  /-- `RX_BADPARITY`, rule R191: a received word whose tag is not the odd parity of its byte. -/
  | rxBadparity (d : Dev) (par : Bool) (data : Byte)
  /-- `RX_RESEND`, rule R192: a received word with good parity whose byte is `RESEND_BYTE`. -/
  | rxResend (d : Dev)
  /-- `RX_DATA`, rule R193: a received word with good parity and any other byte. -/
  | rxData (d : Dev) (par : Bool) (data : Byte)
  /-- `PS2_FRAME`, rule R151: a line frame handed to the engine of line `d`. -/
  | ps2Frame (d : Dev) (par : Bool) (data : Byte)
deriving DecidableEq, Repr

end Sys2Proof
end

