-- ==== Sys2Proof/WellFormed.lean ====
section
/-! DEFINITION. Well-formed instructions: the conditions of the opcode table's rows that a bit pattern alone does
not express (`spec/30_encoding.md` rules R122, R124; `spec/45_frame_validator.md` rule R275). Every operand of
every other constructor may take every value of its type. -/

namespace Sys2Proof

open Machine

/-- Well-formedness of an instruction under the parameters `c`. -/
def Instr.wf (c : Config) (i : Instr) : Bool :=
  match i with
  | .cmdUnknown cmd => !c.cmd.toList.contains cmd
  | .frameInvalid f => !validate c f
  | .rxBadparity _ par data => par != oddParity data
  | .rxData _ par data => par == oddParity data && data != c.resendByte
  | .ps2Frame _ par data => par == oddParity data
  | .ps2Init _ => true
  | .ps2Enq _ _ => true
  | .ps2Task _ => true
  | .engStep _ _ _ => true
  | .hidKey _ _ => true
  | .hidMbtn _ _ => true
  | .hidMabs _ _ => true
  | .hidMrel _ _ => true
  | .hidMwheel _ _ => true
  | .hidClear => true
  | .hidTickMs _ _ => true
  | .hidSync _ _ _ _ _ => true
  | .linkByte _ => true
  | .linkTickMs => true
  | .outSetKbd _ => true
  | .outSetMouse _ => true
  | .linkResync => true
  | .reset _ => true
  | .reserved00 => true
  | .reserved05 => true
  | .reserved06 => true
  | .reserved07 => true
  | .reserved15 => true
  | .reserved16 => true
  | .reserved17 => true
  | .reserved18 => true
  | .reserved19 => true
  | .reserved1A => true
  | .reserved1B => true
  | .reserved1C => true
  | .reserved1D => true
  | .reserved1E => true
  | .cmdPing => true
  | .cmdRepeat => true
  | .cmdSetKbd _ => true
  | .cmdSetMouse _ => true
  | .cmdSetConnected => true
  | .cmdClearHid => true
  | .cmdKey _ _ => true
  | .cmdMouseAbs _ _ => true
  | .cmdMouseBtn _ _ => true
  | .cmdMouseWheel _ _ => true
  | .cmdMouseRel _ _ => true
  | .rxResend _ => true

end Sys2Proof
end

