-- ==== Sys2Proof/Decode.lean ====
section
/-! DEFINITION. The decoder, total on words of the four formats and on byte lists, and the encoder, both written
from `spec/30_encoding.md`: `OPW` rules R130 to R132, `REQ8` rules R116, R118, R122, R123, `RXW` rules R113, R124,
`PS2F` rule R111. -/

namespace Sys2Proof

open Machine

/-- A word of one of the four formats the opcode table lists. An `RXW` or `PS2F` word comes with the line whose
FIFO it is taken from (assumption log 8). -/
inductive CodeWord where
  | opw (w : OpWord)
  | req8 (f : Frame)
  | rxw (d : Dev) (w : RxWord)
  | ps2f (d : Dev) (f : LineFrame)
deriving DecidableEq, Repr

/-- Why a word or a byte list is no instruction. -/
inductive DecodeError where
  /-- A line frame whose start bit is 1 or whose stop bit is 0: it matches no row of the table (rule R111). -/
  | notALineFrame
  /-- A byte list of a length that no format has, or with a bit set above the format's width (rule R110). -/
  | noSuchFormat
deriving DecidableEq, Repr

/-- `dev` of the operation word (rule R130): 0 is the keyboard line. -/
def devOf (b : Bool) : Dev := if b then .line1 else .line0

/-- The inverse of `devOf`. -/
def devBit : Dev → Bool
  | .line0 => false
  | .line1 => true

/-- `op_sel`, bits 37..33 (rule R130). -/
def opSel (w : OpWord) : BitVec 5 := w.extractLsb' 33 5

/-- `dev`, bit 32 (rule R130). -/
def opDev (w : OpWord) : Dev := devOf (w.getLsbD 32)

/-- `a`, bits 31..16 (rule R130). -/
def opA (w : OpWord) : Half := w.extractLsb' 16 16

/-- `b`, bits 15..0 (rule R130). -/
def opB (w : OpWord) : Half := w.extractLsb' 0 16

/-- The instruction an operation word names (rules R131, R132); unused fields and bits are ignored (rule R130). -/
def decodeOpw (w : OpWord) : Instr :=
  match (opSel w).toNat with
  | 0x01 => .ps2Init (opDev w)
  | 0x02 => .ps2Enq (opDev w) (loByte (opA w))
  | 0x03 => .ps2Task (opDev w)
  | 0x04 => .engStep (opDev w) ((opA w).getLsbD 0) ((opA w).getLsbD 1)
  | 0x08 => .hidKey (loByte (opA w)) ((opB w).getLsbD 0)
  | 0x09 => .hidMbtn (loByte (opA w)) (loByte (opB w))
  | 0x0A => .hidMabs (opA w) (opB w)
  | 0x0B => .hidMrel (loByte (opA w)) (loByte (opB w))
  | 0x0C => .hidMwheel (loByte (opA w)) (loByte (opB w))
  | 0x0D => .hidClear
  | 0x0E => .hidTickMs ((opA w).getLsbD 0) ((opA w).getLsbD 1)
  | 0x0F => .hidSync ((opA w).getLsbD 0) ((opA w).getLsbD 1) ((opA w).getLsbD 2) ((opA w).getLsbD 3)
      ((opA w).getLsbD 4)
  | 0x10 => .linkByte (loByte (opA w))
  | 0x11 => .linkTickMs
  | 0x12 => .outSetKbd ((opA w).extractLsb' 0 3)
  | 0x13 => .outSetMouse ((opA w).extractLsb' 0 3)
  | 0x14 => .linkResync
  | 0x1F => .reset (loByte (opA w))
  | 0x05 => .reserved05
  | 0x06 => .reserved06
  | 0x07 => .reserved07
  | 0x15 => .reserved15
  | 0x16 => .reserved16
  | 0x17 => .reserved17
  | 0x18 => .reserved18
  | 0x19 => .reserved19
  | 0x1A => .reserved1A
  | 0x1B => .reserved1B
  | 0x1C => .reserved1C
  | 0x1D => .reserved1D
  | 0x1E => .reserved1E
  -- the one value left of the five bits is 0x00
  | _ => .reserved00

/-- The command of a valid frame (rules R122, R123): the command byte selects, the argument bytes are assembled
as rule R118 says, unused argument bytes and bits are ignored (rule R128). -/
def decodeCmd (c : Config) (f : Frame) : Instr :=
  if f[1] = c.cmd.ping then .cmdPing
  else if f[1] = c.cmd.rpt then .cmdRepeat
  else if f[1] = c.cmd.setKbd then .cmdSetKbd (mode3 f[2])
  else if f[1] = c.cmd.setMouse then .cmdSetMouse (mode3 f[2])
  else if f[1] = c.cmd.setConnected then .cmdSetConnected
  else if f[1] = c.cmd.clearHid then .cmdClearHid
  else if f[1] = c.cmd.key then .cmdKey f[2] (boolOf f[3])
  else if f[1] = c.cmd.mouseAbs then .cmdMouseAbs (s16Of f[2] f[3]) (s16Of f[4] f[5])
  else if f[1] = c.cmd.mouseBtn then .cmdMouseBtn f[2] f[3]
  else if f[1] = c.cmd.mouseWheel then .cmdMouseWheel f[2] f[3]
  else if f[1] = c.cmd.mouseRel then .cmdMouseRel f[2] f[3]
  else .cmdUnknown f[1]

/-- The instruction a request frame holds: validation comes before everything else (rules R290, R338). -/
def decodeReq (c : Config) (f : Frame) : Instr :=
  if validate c f then decodeCmd c f else .frameInvalid f

/-- The class of a received word, in the order of rule R124. -/
def decodeRxw (c : Config) (d : Dev) (w : RxWord) : Instr :=
  if rxTag w ≠ oddParity (rxByte w) then .rxBadparity d (rxTag w) (rxByte w)
  else if rxByte w = c.resendByte then .rxResend d
  else .rxData d (rxTag w) (rxByte w)

/-- A line frame: start bit 0 and stop bit 1, as the row's fixed bits say; its parity bit is an operand, which
`Instr.wf` checks (rule R111). -/
def decodePs2f (d : Dev) (f : LineFrame) : Except DecodeError Instr :=
  if frameOk f then .ok (.ps2Frame d (framePar f) (frameData f)) else .error .notALineFrame

/-- The decoder. -/
def decode (c : Config) : CodeWord → Except DecodeError Instr
  | .opw w => .ok (decodeOpw w)
  | .req8 f => .ok (decodeReq c f)
  | .rxw d w => .ok (decodeRxw c d w)
  | .ps2f d f => decodePs2f d f

/-- A byte list, first byte most significant, as one number. -/
def natOfBytes (bs : List Byte) : Nat := bs.foldl (fun n b => 256 * n + b.toNat) 0

/-- The word a byte list holds, most significant byte first (assumption log 9): two bytes are a received word or a
line frame of the keyboard line, five bytes an operation word, eight bytes a request frame. -/
def wordOfBytes (bs : List Byte) : Except DecodeError CodeWord :=
  match bs with
  | [b0, b1] =>
    let n := natOfBytes [b0, b1]
    if n < 2 ^ 9 then .ok (.rxw .line0 (BitVec.ofNat 9 n))
    else if n < 2 ^ 11 then .ok (.ps2f .line0 (BitVec.ofNat 11 n))
    else .error .noSuchFormat
  | [b0, b1, b2, b3, b4] =>
    let n := natOfBytes [b0, b1, b2, b3, b4]
    if n < 2 ^ 38 then .ok (.opw (BitVec.ofNat 38 n)) else .error .noSuchFormat
  | [b0, b1, b2, b3, b4, b5, b6, b7] => .ok (.req8 #v[b0, b1, b2, b3, b4, b5, b6, b7])
  | _ => .error .noSuchFormat

/-- The decoder on bytes, total. -/
def decodeBytes (c : Config) (bs : List Byte) : Except DecodeError Instr :=
  match wordOfBytes bs with
  | .ok w => decode c w
  | .error e => .error e

/-- The low `k` bytes of `w`, most significant first. -/
def bytesOfNat : Nat → Nat → List Byte
  | 0, _ => []
  | k + 1, w => BitVec.ofNat 8 (w / 256 ^ k) :: bytesOfNat k w

/-- How many bytes hold a row of the opcode table whose bits are `nbits`: 9 and 11 bits stand in two bytes, 38 in
five, a frame in eight. -/
def containerBytes (nbits : Nat) : Nat :=
  if nbits ≤ 16 then 2 else if nbits ≤ 40 then 5 else 8

/-- The instruction the decoder reads, under the default parameters, from the bits the opcode table numbers. -/
def decodeTableWord (nbits w : Nat) : Option Instr :=
  match decodeBytes Config.default (bytesOfNat (containerBytes nbits) w) with
  | .ok i => some i
  | .error _ => none

/-! ### The encoder -/

/-- An operation word from its fields (rule R130). -/
def mkOpw (sel : BitVec 5) (d : Bool) (a b : Half) : OpWord := sel ++ BitVec.ofBool d ++ a ++ b

/-- A byte in the low half of an operand field, the rest written 0 (rule R130). -/
def fieldOfByte (b : Byte) : Half := b.setWidth 16

/-- A mode code in an operand field (rule R131). -/
def fieldOfMode (m : ModeCode) : Half := m.setWidth 16

/-- Up to five bits in an operand field, bit 0 first (rule R131). -/
def fieldOfBits (b0 b1 b2 b3 b4 : Bool) : Half :=
  (BitVec.ofBool b4 ++ BitVec.ofBool b3 ++ BitVec.ofBool b2 ++ BitVec.ofBool b1 ++ BitVec.ofBool b0).setWidth 16

/-- A mode code as an argument byte (rule R123). -/
def argOfMode (m : ModeCode) : Byte := m.setWidth 8

/-- `pressed` as an argument byte (rule R118: any non-zero byte means pressed). -/
def argOfBool (b : Bool) : Byte := if b then 1 else 0

/-- A request frame with its checksum (rules R116, R277). -/
def mkReq (c : Config) (cmd a0 a1 a2 a3 : Byte) : Frame := sealFrame c c.reqMagic cmd a0 a1 a2 a3

/-- The word of a well-formed instruction. -/
def encode (c : Config) (i : Instr) : CodeWord :=
  match i with
  | .ps2Init d => .opw (mkOpw 0x01 (devBit d) 0 0)
  | .ps2Enq d b => .opw (mkOpw 0x02 (devBit d) (fieldOfByte b) 0)
  | .ps2Task d => .opw (mkOpw 0x03 (devBit d) 0 0)
  | .engStep d hClk hData => .opw (mkOpw 0x04 (devBit d) (fieldOfBits hClk hData false false false) 0)
  | .hidKey code pressed =>
    .opw (mkOpw 0x08 false (fieldOfByte code) (fieldOfBits pressed false false false false))
  | .hidMbtn sel st => .opw (mkOpw 0x09 false (fieldOfByte sel) (fieldOfByte st))
  | .hidMabs x y => .opw (mkOpw 0x0A false x y)
  | .hidMrel dx dy => .opw (mkOpw 0x0B false (fieldOfByte dx) (fieldOfByte dy))
  | .hidMwheel h v => .opw (mkOpw 0x0C false (fieldOfByte h) (fieldOfByte v))
  | .hidClear => .opw (mkOpw 0x0D false 0 0)
  | .hidTickMs kr mr => .opw (mkOpw 0x0E false (fieldOfBits kr mr false false false) 0)
  | .hidSync susp kr mr ko mo => .opw (mkOpw 0x0F false (fieldOfBits susp kr mr ko mo) 0)
  | .linkByte b => .opw (mkOpw 0x10 false (fieldOfByte b) 0)
  | .linkTickMs => .opw (mkOpw 0x11 false 0 0)
  | .outSetKbd m => .opw (mkOpw 0x12 false (fieldOfMode m) 0)
  | .outSetMouse m => .opw (mkOpw 0x13 false (fieldOfMode m) 0)
  | .linkResync => .opw (mkOpw 0x14 false 0 0)
  | .reset m => .opw (mkOpw 0x1F false (fieldOfByte m) 0)
  | .reserved00 => .opw (mkOpw 0x00 false 0 0)
  | .reserved05 => .opw (mkOpw 0x05 false 0 0)
  | .reserved06 => .opw (mkOpw 0x06 false 0 0)
  | .reserved07 => .opw (mkOpw 0x07 false 0 0)
  | .reserved15 => .opw (mkOpw 0x15 false 0 0)
  | .reserved16 => .opw (mkOpw 0x16 false 0 0)
  | .reserved17 => .opw (mkOpw 0x17 false 0 0)
  | .reserved18 => .opw (mkOpw 0x18 false 0 0)
  | .reserved19 => .opw (mkOpw 0x19 false 0 0)
  | .reserved1A => .opw (mkOpw 0x1A false 0 0)
  | .reserved1B => .opw (mkOpw 0x1B false 0 0)
  | .reserved1C => .opw (mkOpw 0x1C false 0 0)
  | .reserved1D => .opw (mkOpw 0x1D false 0 0)
  | .reserved1E => .opw (mkOpw 0x1E false 0 0)
  | .cmdPing => .req8 (mkReq c c.cmd.ping 0 0 0 0)
  | .cmdRepeat => .req8 (mkReq c c.cmd.rpt 0 0 0 0)
  | .cmdSetKbd m => .req8 (mkReq c c.cmd.setKbd (argOfMode m) 0 0 0)
  | .cmdSetMouse m => .req8 (mkReq c c.cmd.setMouse (argOfMode m) 0 0 0)
  | .cmdSetConnected => .req8 (mkReq c c.cmd.setConnected 0 0 0 0)
  | .cmdClearHid => .req8 (mkReq c c.cmd.clearHid 0 0 0 0)
  | .cmdKey code pressed => .req8 (mkReq c c.cmd.key code (argOfBool pressed) 0 0)
  | .cmdMouseAbs x y => .req8 (mkReq c c.cmd.mouseAbs (hiByte x) (loByte x) (hiByte y) (loByte y))
  | .cmdMouseBtn sel st => .req8 (mkReq c c.cmd.mouseBtn sel st 0 0)
  | .cmdMouseWheel h v => .req8 (mkReq c c.cmd.mouseWheel h v 0 0)
  | .cmdMouseRel dx dy => .req8 (mkReq c c.cmd.mouseRel dx dy 0 0)
  | .cmdUnknown cmd => .req8 (mkReq c cmd 0 0 0 0)
  | .frameInvalid f => .req8 f
  | .rxBadparity d par data => .rxw d (rxWord par data)
  | .rxResend d => .rxw d (rxWord (oddParity c.resendByte) c.resendByte)
  | .rxData d par data => .rxw d (rxWord par data)
  | .ps2Frame d par data => .ps2f d (lineFrame par data)

end Sys2Proof
end

