-- ==== Sys2Proof/Machine/State.lean ====
section
/-! DEFINITION. The state of the block (`spec/10_state.md` rules R20 to R58), plain data throughout, its output
events (R11) and error events (R336), the reasons a step can stop, and the state after reset (R360).

The block has no addressed memory (rule R80): its element-addressed spaces are the eight bytes of `FBUF` and the six
slots of `KEYS`, held as vectors; its queues and FIFOs are lists, head first. -/

namespace Sys2Proof.Machine

/-- `eng.st` (rule R32). -/
inductive EngSt where
  | idle
  | transmitting
  | receiving
deriving DecidableEq, Repr

/-- The bit engine of one line, `phy[d].eng` (rules R32 to R37). A bit is a `Bool`, 1 being `true`. -/
structure Eng where
  /-- Rule R32. -/
  st : EngSt
  /-- 0..11, rule R33. -/
  bitn : Nat
  /-- Rule R34. -/
  txSh : LineFrame
  /-- Rule R35. -/
  rxSh : Byte
  /-- Rule R35. -/
  rxPar : Bool
  /-- Rule R35. -/
  rxStop : Bool
  /-- 0..`IDLE_HOLD`, rule R36. -/
  idleCnt : Nat
  /-- The drive of the clock wire, `true` released, rule R37. -/
  dClk : Bool
  /-- The drive of the data wire, `true` released, rule R37. -/
  dData : Bool
deriving DecidableEq, Repr

/-- A packet (rules R24, R115); its `len` is the length of the list, its byte `i` of 1..`len` the `i`-th element. -/
structure Packet where
  bytes : List Byte
deriving DecidableEq, Repr

/-- One PHY instance, `phy[d]` (rules R22 to R37). -/
structure Phy where
  /-- Rule R22. -/
  inited : Bool
  /-- Rule R23. -/
  byteq : List Byte
  /-- Rule R24. -/
  packq : List Packet
  /-- 0..`PACK_MAX`, rule R25. -/
  sent : Nat
  /-- Rule R26. -/
  lastTx : Byte
  /-- Rule R27. -/
  lastRx : Byte
  /-- Rule R28. -/
  txf : List LineFrame
  /-- Rule R29. -/
  rxf : List RxWord
  /-- Sticky, rule R30. -/
  err : Bool
  /-- Sticky, rule R31. -/
  rxFerr : Bool
  eng : Eng
deriving DecidableEq, Repr

/-- `out` (rules R39, R40): one enumeration value each, so that at most one mode of each kind is active (R41). -/
structure Out where
  kbdMode : KbdMode
  mouseMode : MouseMode
deriving DecidableEq, Repr

/-- What the two USB interfaces have in common (rules R45 to R47 and R52). -/
structure Iface where
  dirty : Bool
  force : Bool
  online : Bool
  /-- 0..`HYST_MS`. -/
  unreadyMs : Nat
deriving DecidableEq, Repr

/-- `kbd` (rules R43 to R47). -/
structure Kbd extends Iface where
  /-- Rule R43. -/
  mod : Byte
  /-- The storage space `KEYS` (rules R44, R80). -/
  keys : Vector Byte 6
deriving DecidableEq, Repr

/-- `mouse` (rules R48 to R52); positions and deltas are two's-complement patterns. -/
structure Mouse extends Iface where
  /-- Rule R48. -/
  buttons : Byte
  /-- Rule R49. -/
  ax : Half
  /-- Rule R49. -/
  ay : Half
  /-- Rule R50. -/
  dx : Byte
  /-- Rule R50. -/
  dy : Byte
  /-- Rule R51. -/
  wheel : Byte
deriving DecidableEq, Repr

/-- `fcv` (rules R53 to R55). -/
structure Fcv where
  /-- The storage space `FBUF` (rules R53, R80). -/
  fbuf : Frame
  /-- Rule R54. -/
  fidx : Fin 8
  /-- 0..`LINK_TIMEOUT_MS`, rule R55. -/
  silentMs : Nat
deriving DecidableEq, Repr

/-- `cdr` (rules R56, R57). -/
structure Cdr where
  /-- Rule R56. -/
  prevStatus : Byte
  /-- The level `reboot_req`, rule R57. -/
  rebootReq : Bool
deriving DecidableEq, Repr

/-- `kind` of a `ps2_mouse_event` (rule R11). -/
inductive MouseKind where
  | btn
  | abs
  | rel
  | wheel
deriving DecidableEq, Repr

/-- `iface` of a `usb_send` (rule R11). -/
inductive UsbIface where
  | kbd
  | mouse
deriving DecidableEq, Repr

/-- The output events (rule R11). -/
inductive Event where
  | wire (d : Dev) (clkPulse : Bool) (data : Bool)
  | ps2Rx (d : Dev) (cur prev : Byte)
  | ps2KeyEvent (code : Byte) (pressed : Bool)
  /-- The two 16-bit operands are two's-complement patterns. -/
  | ps2MouseEvent (kind : MouseKind) (a b : Half)
  | ps2Clear
  | usbSend (iface : UsbIface) (bytes : List Byte)
  | usbRemoteWakeup
  | respOut (frame : Frame)
deriving DecidableEq, Repr

/-- The fifteen error events (rule R336), in the order of their numbers. -/
inductive ErrEvent where
  | checksumError
  | invalidCommand
  | linkTimeout
  | linkBusError
  | txAbort (d : Dev)
  | rxParityError (d : Dev)
  | rxFrameError (d : Dev)
  | resendRequest (d : Dev)
  | rxOverflow (d : Dev)
  | byteQueueFull (d : Dev)
  | packetQueueFull (d : Dev)
  | txFifoFull (d : Dev)
  | usbNotReady
  | usbSuspended
  | modeUnavailable
deriving DecidableEq, Repr

/-- The machine's state: the record of rule R20 and, beside it, the model's own fields: `cfg` (assumption log 3),
`port` (log 1) and `trace`, `raised`, `ret` (log 2). -/
structure State where
  /-- The parameters, which no operation changes. -/
  cfg : Config
  /-- The operation words the environment has presented and the block has not yet taken, next first. -/
  port : List OpWord
  phy0 : Phy
  phy1 : Phy
  out : Out
  kbd : Kbd
  mouse : Mouse
  fcv : Fcv
  cdr : Cdr
  /-- The output trace (rule R11), oldest event first. -/
  trace : List Event
  /-- The error events raised so far, oldest first; no operation reads it. -/
  raised : List ErrEvent
  /-- The value the last operation returned, for the three operations that return one. -/
  ret : Option Bool
deriving DecidableEq, Repr

/-- Why the machine stops with a fault. -/
inductive Fault where
  /-- Raised by `ENG_STEP` alone, when `bitn` is outside the range rule R33 gives it for the engine's state (0..10
  in `TRANSMITTING`, 1..11 in `RECEIVING`), so that none of the rules R155 to R166 applies. No run reaches such a
  state (`Safety.lean`). Safe: the spec gives no behaviour there (assumption log 7). -/
  | engineSlotOutOfRange
deriving DecidableEq, Repr

/-- Why the machine refuses an instruction. -/
inductive Refusal where
  /-- The instruction of this mnemonic has no meaning yet. Raised by an arm of `exec` alone; no arm does. Safe. -/
  | notModelled (mnemonic : String)
deriving DecidableEq, Repr

/-- The engine after reset (rules R32 to R37, R360). -/
def Eng.reset : Eng where
  st := .idle
  bitn := 0
  txSh := 0
  rxSh := 0
  rxPar := false
  rxStop := false
  idleCnt := 0
  dClk := true
  dData := true

/-- A PHY instance after reset (rules R22 to R37, R360). -/
def Phy.reset : Phy where
  inited := false
  byteq := []
  packq := []
  sent := 0
  lastTx := 0
  lastRx := 0
  txf := []
  rxf := []
  err := false
  rxFerr := false
  eng := Eng.reset

/-- The keyboard state after reset (rules R43 to R47, R360). -/
def Kbd.reset : Kbd where
  mod := 0
  keys := #v[0, 0, 0, 0, 0, 0]
  dirty := false
  force := false
  online := false
  unreadyMs := 0

/-- The mouse state after reset (rules R48 to R52, R360). -/
def Mouse.reset : Mouse where
  buttons := 0
  ax := 0
  ay := 0
  dx := 0
  dy := 0
  wheel := 0
  dirty := false
  force := false
  online := false
  unreadyMs := 0

/-- The frame validator after reset (rules R53 to R55, R360). -/
def Fcv.reset : Fcv where
  fbuf := #v[0, 0, 0, 0, 0, 0, 0, 0]
  fidx := 0
  silentMs := 0

/-- The block right after `RESET(bootActive)` (rule R360) under the parameters `c`, with nothing on the operation port
and nothing emitted. -/
def State.resetWith (c : Config) (bootActive : Byte) : State where
  cfg := c
  port := []
  phy0 := Phy.reset
  phy1 := Phy.reset
  out := { kbdMode := bootKbd c bootActive, mouseMode := bootMouse c bootActive }
  kbd := Kbd.reset
  mouse := Mouse.reset
  fcv := Fcv.reset
  cdr := { prevStatus := c.st.noneYet, rebootReq := false }
  trace := []
  raised := []
  ret := none

/-- The machine right after reset: the default parameters and the boot mask of assumption log 6. -/
def State.reset : State := State.resetWith Config.default Config.bootActive

end Sys2Proof.Machine
end

