-- ==== Sys2Proof/Machine/Ops.lean ====
section
/-! DEFINITION. The named operations over storage and registers that every meaning shares: the element-addressed
spaces (`spec/20_memory.md` rule R80), FIFO push (R84), the PHY instances, output events (`spec/00_scope.md` R11),
and raising an error event (`spec/60_exceptions.md` rule R339), which is all that taking an exception is on this
hardware; there is no return from one (R340). -/

namespace Sys2Proof.Machine

/-- An element of one of the two element-addressed spaces (rule R80). -/
inductive Loc where
  | fbuf (i : Fin 8)
  | key (j : Fin 6)
deriving DecidableEq, Repr

/-- `MemRead` (rule R80). -/
def State.memRead (s : State) : Loc → Byte
  | .fbuf i => s.fcv.fbuf[i]
  | .key j => s.kbd.keys[j]

/-- `MemWrite` (rule R80). -/
def State.memWrite (s : State) (l : Loc) (v : Byte) : State :=
  match l with
  | .fbuf i => { s with fcv := { s.fcv with fbuf := s.fcv.fbuf.set i v } }
  | .key j => { s with kbd := { s.kbd with keys := s.kbd.keys.set j v } }

/-- The queue after `push` (rules R9, R84): the new element is dropped when the queue is full. -/
def pushed {α : Type} (cap : Nat) (q : List α) (v : α) : List α :=
  if q.length < cap then q ++ [v] else q

/-- What `push` returns (rules R9, R84). -/
def pushOk {α : Type} (cap : Nat) (q : List α) : Bool := q.length < cap

/-- The PHY instance of a line (rule R3). -/
def State.phy (s : State) : Dev → Phy
  | .line0 => s.phy0
  | .line1 => s.phy1

/-- The state with the PHY instance of line `d` replaced. -/
def State.setPhy (s : State) (d : Dev) (p : Phy) : State :=
  match d with
  | .line0 => { s with phy0 := p }
  | .line1 => { s with phy1 := p }

/-- `emit` (rules R9, R11). -/
def State.emit (s : State) (e : Event) : State := { s with trace := s.trace ++ [e] }

/-- `raise` (rules R9, R339): nothing is saved and control does not leave the operation; the event is recorded in
the model's own log, and its effect is the one the raising rule performs (assumption log 10). -/
def State.raise (s : State) (e : ErrEvent) : State := { s with raised := s.raised ++ [e] }

/-- `raise` under a condition. -/
def State.raiseIf (s : State) (b : Bool) (e : ErrEvent) : State := if b then s.raise e else s

/-- The value an operation returns (`spec/00_scope.md` rule R10). -/
def State.returning (s : State) (b : Bool) : State := { s with ret := some b }

/-- What an operation on one PHY instance answers: the new instance, what it raises and what it emits. -/
structure PhyOut where
  phy : Phy
  errs : List ErrEvent
  events : List Event
deriving DecidableEq, Repr

/-- The state after an operation on the PHY instance of line `d`. -/
def State.applyPhy (s : State) (d : Dev) (o : PhyOut) : State :=
  { s.setPhy d o.phy with raised := s.raised ++ o.errs, trace := s.trace ++ o.events }

/-- The next word is taken off the operation port; the operation it names has returned nothing yet. -/
def State.takeWord (s : State) (rest : List OpWord) : State := { s with port := rest, ret := none }

end Sys2Proof.Machine
end

