-- ==== Sys2Proof/Machine/Flags.lean ====
section
/-! DEFINITION. The flag computations: the bus-idle condition (`spec/10_state.md` rule R38), the online detector with
its `force` flag (`spec/44_hid_sync_and_output.md` rules R251, R252), the offline flags (R260), the status byte
(`spec/46_command_decode.md` rule R304) and the active mask (R308). -/

namespace Sys2Proof.Machine

/-- `bus_idle` (rules R38, R168). -/
def Phy.busIdle (c : Config) (p : Phy) : Bool :=
  p.inited && p.eng.st == .idle && decide (c.idleHold ≤ p.eng.idleCnt)

/-- An interface sampled ready (rule R251). -/
def Iface.sampledReady (x : Iface) : Iface :=
  { x with force := x.force || !x.online, online := true, unreadyMs := 0 }

/-- An interface sampled not ready (rule R252). -/
def Iface.sampledUnready (hystMs : Nat) (x : Iface) : Iface :=
  if x.online then
    if x.unreadyMs + 1 ≥ hystMs then { x with online := false, unreadyMs := 0 }
    else { x with unreadyMs := x.unreadyMs + 1 }
  else x

/-- One 1-ms sample of an interface (rule R250). -/
def Iface.tick (hystMs : Nat) (ready : Bool) (x : Iface) : Iface :=
  if ready then x.sampledReady else x.sampledUnready hystMs

/-- Something is to be sent on an interface (rules R253, R254). -/
def Iface.pending (x : Iface) : Bool := x.dirty || x.force

/-- A report was sent successfully (rules R253, R254). -/
def Iface.sent (x : Iface) : Iface := { x with dirty := false, force := false }

/-- `kbd_offline` (rule R260). -/
def State.kbdOffline (s : State) : Bool := s.out.kbdMode == .usb && !s.kbd.online

/-- `mouse_offline` (rule R260). -/
def State.mouseOffline (s : State) : Bool := usbMouse s.out.mouseMode && !s.mouse.online

/-- A mask, or 0. -/
def maskIf (b : Bool) (m : Byte) : Byte := if b then m else 0

/-- `ok_status` (rule R304). -/
def State.okStatus (s : State) : Byte :=
  s.cfg.st.ok ||| maskIf s.cdr.rebootReq s.cfg.st.resetReq ||| maskIf s.mouseOffline s.cfg.st.mouseOffline |||
    maskIf s.kbdOffline s.cfg.st.kbdOffline

/-- `active_mask` (rule R308). -/
def State.activeMask (s : State) : Byte := modeMask s.cfg s.out.kbdMode s.out.mouseMode

end Sys2Proof.Machine
end

