-- ==== Sys2Proof/Machine/Engine.lean ====
section
/-! DEFINITION. The bit engine: `ENG_STEP` (`spec/40_ps2_framer.md` section 3), one rule a definition, and the line
frame as the engine takes it (`PS2_FRAME`). -/

namespace Sys2Proof.Machine

/-- One engine step's answer: the new instance, what it raises, and its one `wire` event (rule R154). -/
def wireOut (d : Dev) (p : Phy) (errs : List ErrEvent) (clkPulse data : Bool) : PhyOut :=
  { phy := p, errs := errs, events := [.wire d clkPulse data] }

/-- The idle count on leaving `IDLE` to transmit: zeroed (rule R168, decision D8), or kept as the example of R156 has
it, by the machine's reading (assumption log 24). No rule reads it before the engine is back in `IDLE`, where it is 0. -/
def startedCount (c : Config) (n : Nat) : Nat := if c.reading.startZeroesIdle then 0 else n

/-- The engine takes a line frame: the start of a transmission (rules R156, R168). The frame is shifted out bit 0 first
by the steps that follow, whatever its bits are (rule R112). -/
def Phy.startFrame (c : Config) (p : Phy) (f : LineFrame) : Phy :=
  { p with eng := { p.eng with txSh := f, bitn := 0, st := .transmitting, idleCnt := startedCount c p.eng.idleCnt } }

/-- The engine goes back to `IDLE` with the data wire released and the idle count at 0 (rules R159, R160, R164 to
R166). -/
def Phy.toIdle (p : Phy) : Phy :=
  { p with eng := { p.eng with dData := true, idleCnt := 0, st := .idle } }

/-- Rule R155: `IDLE`, the host inhibits. -/
def engInhibited (d : Dev) (p : Phy) (hData : Bool) : PhyOut :=
  wireOut d { p with eng := { p.eng with idleCnt := 0 } } [] false hData

/-- The idle count after one more sample with both wires high (rule R156). -/
def idleNext (c : Config) (p : Phy) : Nat := min (p.eng.idleCnt + 1) c.idleHold

/-- The instance once that sample is counted. -/
def Phy.countIdle (c : Config) (p : Phy) : Phy := { p with eng := { p.eng with idleCnt := idleNext c p } }

/-- Rule R156: `IDLE`, both wires high; a waiting frame is taken when the updated count makes the bus idle. -/
def engIdleHigh (c : Config) (d : Dev) (p : Phy) : PhyOut :=
  match p.txf with
  | f :: rest =>
    if c.idleHold ≤ idleNext c p then
      wireOut d (Phy.startFrame c { p.countIdle c with txf := rest } f) [] false true
    else wireOut d (p.countIdle c) [] false true
  | [] => wireOut d (p.countIdle c) [] false true

/-- Rule R157: `IDLE`, request to send. -/
def engRequestToSend (d : Dev) (p : Phy) : PhyOut :=
  wireOut d
    { p with
      eng := { p.eng with
        rxSh := 0, rxPar := false, rxStop := false, bitn := 1, idleCnt := 0, st := .receiving } }
    [] false false

/-- Rules R155 to R157: a step in `IDLE`. -/
def engIdle (c : Config) (d : Dev) (p : Phy) (hClk hData : Bool) : PhyOut :=
  if hClk then if hData then engIdleHigh c d p else engRequestToSend d p
  else engInhibited d p hData

/-- Rule R158: one bit of the frame. -/
def engSendBit (d : Dev) (p : Phy) (hData : Bool) : PhyOut :=
  wireOut d
    { p with eng := { p.eng with dData := p.eng.txSh.getLsbD p.eng.bitn, bitn := p.eng.bitn + 1 } }
    [] true (wireLevel hData (p.eng.txSh.getLsbD p.eng.bitn))

/-- Rule R159: the last bit. -/
def engSendLast (d : Dev) (p : Phy) (hData : Bool) : PhyOut :=
  wireOut d p.toIdle [] true (wireLevel hData (p.eng.txSh.getLsbD 10))

/-- Rule R160: the host interrupts the frame. -/
def engAbort (d : Dev) (p : Phy) (hData : Bool) : PhyOut :=
  wireOut d ({ p with err := true }).toIdle [.txAbort d] false hData

/-- Rules R158 to R160: a step in `TRANSMITTING`; none where `bitn` is out of its range (assumption log 7). -/
def engTransmitting (d : Dev) (p : Phy) (hClk hData : Bool) : Option PhyOut :=
  if hClk then
    if p.eng.bitn ≤ 9 then some (engSendBit d p hData)
    else if p.eng.bitn = 10 then some (engSendLast d p hData)
    else none
  else some (engAbort d p hData)

/-- Rule R161: a data slot. -/
def engRxData (d : Dev) (p : Phy) (hData : Bool) : PhyOut :=
  wireOut d
    { p with eng := { p.eng with rxSh := setBit p.eng.rxSh (p.eng.bitn - 1) hData, bitn := p.eng.bitn + 1 } }
    [] true hData

/-- Rule R162: the parity slot. -/
def engRxParity (d : Dev) (p : Phy) (hData : Bool) : PhyOut :=
  wireOut d { p with eng := { p.eng with rxPar := hData, bitn := 10 } } [] true hData

/-- Rule R163: the stop slot. -/
def engRxStop (d : Dev) (p : Phy) (hData : Bool) : PhyOut :=
  wireOut d { p with eng := { p.eng with rxStop := hData, bitn := 11 } } [] true hData

/-- Rule R164: acknowledge and delivery. -/
def engRxDeliver (c : Config) (d : Dev) (p : Phy) : PhyOut :=
  wireOut d
    ({ p with rxf := pushed c.rxfDepth p.rxf (rxWord p.eng.rxPar p.eng.rxSh) }).toIdle
    (if pushOk c.rxfDepth p.rxf then [] else [.rxOverflow d]) true false

/-- Rule R165: acknowledge after a bad stop bit. -/
def engRxFrameError (d : Dev) (p : Phy) : PhyOut :=
  wireOut d ({ p with rxFerr := true }).toIdle [.rxFrameError d] true false

/-- Rule R166: the host interrupts its own frame. -/
def engRxDropped (d : Dev) (p : Phy) (hData : Bool) : PhyOut := wireOut d p.toIdle [] false hData

/-- Rules R161 to R166: a step in `RECEIVING`; none where `bitn` is out of its range (assumption log 7). -/
def engReceiving (c : Config) (d : Dev) (p : Phy) (hClk hData : Bool) : Option PhyOut :=
  if hClk then
    if p.eng.bitn = 0 then none
    else if p.eng.bitn ≤ 8 then some (engRxData d p hData)
    else if p.eng.bitn = 9 then some (engRxParity d p hData)
    else if p.eng.bitn = 10 then some (engRxStop d p hData)
    else if p.eng.bitn = 11 then
      some (if p.eng.rxStop then engRxDeliver c d p else engRxFrameError d p)
    else none
  else some (engRxDropped d p hData)

/-- One step of an initialised engine (rule R154). -/
def engSlot (c : Config) (d : Dev) (p : Phy) (hClk hData : Bool) : Option PhyOut :=
  match p.eng.st with
  | .idle => some (engIdle c d p hClk hData)
  | .transmitting => engTransmitting d p hClk hData
  | .receiving => engReceiving c d p hClk hData

/-- `ENG_STEP` (rule R154): nothing before `PS2_INIT` (rule R181). -/
def execEngStep (d : Dev) (hClk hData : Bool) (s : State) : Host.Outcome State Fault Refusal :=
  if (s.phy d).inited then
    match engSlot s.cfg d (s.phy d) hClk hData with
    | some o => .next (s.applyPhy d o)
    | none => .fault .engineSlotOutOfRange
  else .next s

/-- `PS2_FRAME` (rules R111, R151, R156): the engine of line `d` takes the frame; it goes out bit by bit in the
`ENG_STEP`s that follow (assumption log 8). Run by itself it looks neither at `inited` nor at the state of the engine or
the idle bus, which R156 and R167 ask of the step that takes a frame (DESIGN CHOICE, assumption log 17). -/
def execPs2Frame (d : Dev) (par : Bool) (data : Byte) (s : State) : Host.Outcome State Fault Refusal :=
  .next (s.setPhy d (Phy.startFrame s.cfg (s.phy d) (lineFrame par data)))

end Sys2Proof.Machine
end

