-- ==== Sys2Proof/Machine/Keyboard.lean ====
section
/-! DEFINITION. The keyboard report builder: `HID_KEY` and `kbd_report` (`spec/42_hid_keyboard.md`). -/

namespace Sys2Proof.Machine

/-- The six slots, lowest index first. -/
def slots : List (Fin 6) := [0, 1, 2, 3, 4, 5]

/-- The lowest slot that holds `code` (the free slots hold 0, rule R44). -/
def findSlot (keys : Vector Byte 6) (code : Byte) : Option (Fin 6) := slots.find? (fun j => keys[j] == code)

/-- One slot's byte after the release of `code` (rule R216). -/
def releaseKey (code k : Byte) : Byte := if k = code then 0 else k

/-- The slots after the release of `code` (rule R216). -/
def releaseSlots (keys : Vector Byte 6) (code : Byte) : Vector Byte 6 :=
  #v[releaseKey code keys[0], releaseKey code keys[1], releaseKey code keys[2], releaseKey code keys[3],
    releaseKey code keys[4], releaseKey code keys[5]]

/-- The slots after the press of a regular code: nothing when it is held (rule R212), else the lowest free slot
(rule R213), else the overflow policy (rules R214, R215). -/
def pressSlots (policy : KeyPolicy) (keys : Vector Byte 6) (code : Byte) : Vector Byte 6 :=
  match findSlot keys code with
  | some _ => keys
  | none =>
    match findSlot keys 0 with
    | some j => keys.set j code
    | none =>
      match policy with
      | .overwriteSlot0 => keys.set 0 code
      | .dropNew => keys

/-- The modifier byte after a modifier key (rule R211). -/
def modAfter (mod code : Byte) (pressed : Bool) : Byte := setBit mod (code - 0xE0#8).toNat pressed

/-- A modifier key (rule R211): `dirty` is set only on a change. -/
def Kbd.modifierKey (k : Kbd) (code : Byte) (pressed : Bool) : Kbd :=
  { k with
    mod := modAfter k.mod code pressed
    dirty := k.dirty || modAfter k.mod code pressed != k.mod }

/-- A regular key (rules R212 to R216): `dirty` is set only on a change. -/
def Kbd.regularKey (policy : KeyPolicy) (k : Kbd) (code : Byte) (pressed : Bool) : Kbd :=
  let keys := if pressed then pressSlots policy k.keys code else releaseSlots k.keys code
  { k with keys := keys, dirty := k.dirty || keys != k.keys }

/-- The effect of `HID_KEY` (rule R210): nothing unless the keyboard mode is USB (R218), nothing for code 0 (R219). -/
def State.hidKey (s : State) (code : Byte) (pressed : Bool) : State :=
  if s.out.kbdMode ≠ .usb then s
  else if code = 0 then s
  else if isModifier code then { s with kbd := s.kbd.modifierKey code pressed }
  else { s with kbd := s.kbd.regularKey s.cfg.keyPolicy code pressed }

/-- `kbd_report` (rules R119, R220). -/
def Kbd.report (k : Kbd) : List Byte :=
  [k.mod, 0, k.keys[0], k.keys[1], k.keys[2], k.keys[3], k.keys[4], k.keys[5]]

/-- `HID_KEY` (rule R210). -/
def execHidKey (code : Byte) (pressed : Bool) (s : State) : Host.Outcome State Fault Refusal :=
  .next (s.hidKey code pressed)

end Sys2Proof.Machine
end

