-- ==== Sys2Proof/Machine/Mouse.lean ====
section
/-! DEFINITION. The mouse report builder: `HID_MBTN`, `HID_MABS`, `HID_MREL`, `HID_MWHEEL` and `mouse_report`
(`spec/43_hid_mouse.md`). An operation whose submode is not active is dropped (rule R230); `dirty` is set only on a
change. -/

namespace Sys2Proof.Machine

/-- The buttons after `HID_MBTN` (rule R231): bits 0..4 of `sel` select, `st` gives their state. -/
def buttonsAfter (buttons sel st : Byte) : Byte :=
  (buttons &&& ~~~(sel &&& 0x1F#8)) ||| (st &&& (sel &&& 0x1F#8))

/-- The effect of `HID_MBTN` (rule R231). -/
def State.hidMbtn (s : State) (sel st : Byte) : State :=
  if usbMouse s.out.mouseMode ∧ buttonsAfter s.mouse.buttons sel st ≠ s.mouse.buttons then
    { s with mouse := { s.mouse with buttons := buttonsAfter s.mouse.buttons sel st, dirty := true } }
  else s

/-- The effect of `HID_MABS` (rule R232): the raw operands are stored. -/
def State.hidMabs (s : State) (x y : Half) : State :=
  if absMouse s.out.mouseMode ∧ (x ≠ s.mouse.ax ∨ y ≠ s.mouse.ay) then
    { s with mouse := { s.mouse with ax := x, ay := y, dirty := true } }
  else s

/-- The effect of `HID_MREL` (rule R233): a new delta overwrites a pending one. -/
def State.hidMrel (s : State) (dx dy : Byte) : State :=
  if relMouse s.out.mouseMode ∧ (dx ≠ s.mouse.dx ∨ dy ≠ s.mouse.dy) then
    { s with mouse := { s.mouse with dx := dx, dy := dy, dirty := true } }
  else s

/-- The effect of `HID_MWHEEL` (rule R234): the horizontal operand has no effect at all. -/
def State.hidMwheel (s : State) (_h v : Byte) : State :=
  if usbMouse s.out.mouseMode ∧ v ≠ s.mouse.wheel then
    { s with mouse := { s.mouse with wheel := v, dirty := true } }
  else s

/-- The absolute report `MABS` (rules R120, R238): 16-bit fields less significant byte first (R89), pan 0. -/
def Mouse.absReport (c : Config) (m : Mouse) : List Byte :=
  [m.buttons, loByte (scaleAbs c m.ax), hiByte (scaleAbs c m.ax), loByte (scaleAbs c m.ay), hiByte (scaleAbs c m.ay),
    m.wheel, 0]

/-- The relative report `MREL` (rules R121, R238): pan 0. -/
def Mouse.relReport (m : Mouse) : List Byte := [m.buttons, m.dx, m.dy, m.wheel, 0]

/-- `mouse_report` (rule R238), called only when the mouse mode is a USB mode. -/
def mouseReport (c : Config) (mode : MouseMode) (m : Mouse) : List Byte :=
  if absMouse mode then m.absReport c else m.relReport

/-- `HID_MBTN` (rule R231). -/
def execHidMbtn (sel st : Byte) (s : State) : Host.Outcome State Fault Refusal := .next (s.hidMbtn sel st)

/-- `HID_MABS` (rule R232). -/
def execHidMabs (x y : Half) (s : State) : Host.Outcome State Fault Refusal := .next (s.hidMabs x y)

/-- `HID_MREL` (rule R233). -/
def execHidMrel (dx dy : Byte) (s : State) : Host.Outcome State Fault Refusal := .next (s.hidMrel dx dy)

/-- `HID_MWHEEL` (rule R234). -/
def execHidMwheel (h v : Byte) (s : State) : Host.Outcome State Fault Refusal := .next (s.hidMwheel h v)

end Sys2Proof.Machine
end

