-- ==== Sys2Proof/Machine/Output.lean ====
section
/-! DEFINITION. Clearing, online detection, sending, and output selection: `HID_CLEAR`, `HID_TICK_MS`, `HID_SYNC`,
`OUT_SET_KBD`, `OUT_SET_MOUSE` (`spec/44_hid_sync_and_output.md`). -/

namespace Sys2Proof.Machine

/-- The keyboard half of `HID_CLEAR` (rule R256). -/
def Kbd.clear (k : Kbd) : Kbd := { k with mod := 0, keys := #v[0, 0, 0, 0, 0, 0], dirty := true }

/-- The mouse half of `HID_CLEAR` (rule R256). -/
def Mouse.clear (m : Mouse) : Mouse :=
  { m with buttons := 0, ax := 0, ay := 0, dx := 0, dy := 0, wheel := 0, dirty := true }

/-- The effect of `HID_CLEAR` (rule R256), in every mode. -/
def State.hidClear (s : State) : State := { s with kbd := s.kbd.clear, mouse := s.mouse.clear }

/-- The effect of `HID_TICK_MS` (rule R250). -/
def State.hidTick (s : State) (kbdReady mouseReady : Bool) : State :=
  { s with
    kbd := { s.kbd with toIface := s.kbd.toIface.tick s.cfg.hystMs kbdReady }
    mouse := { s.mouse with toIface := s.mouse.toIface.tick s.cfg.hystMs mouseReady } }

/-- The keyboard has something to send (rule R253). -/
def State.kbdWants (s : State) : Bool := s.out.kbdMode == .usb && s.kbd.pending

/-- The mouse has something to send (rule R254). -/
def State.mouseWants (s : State) : Bool := usbMouse s.out.mouseMode && s.mouse.pending

/-- The keyboard after a successful send (rule R253). -/
def Kbd.afterSend (k : Kbd) : Kbd := { k with toIface := k.toIface.sent }

/-- The mouse after a successful send: the pending deltas are zeroed, buttons and position persist (rule R254). -/
def Mouse.afterSend (m : Mouse) : Mouse := { m with toIface := m.toIface.sent, dx := 0, dy := 0, wheel := 0 }

/-- The keyboard part of `HID_SYNC` (rules R253, R333, R334). -/
def State.syncKbd (s : State) (susp ready ok : Bool) : State :=
  if s.kbdWants then
    if susp then s.raise .usbSuspended
    else if ready then
      if ok then { s.emit (.usbSend .kbd s.kbd.report) with kbd := s.kbd.afterSend }
      else (s.emit (.usbSend .kbd s.kbd.report)).raise .usbNotReady
    else s.raise .usbNotReady
  else s

/-- The mouse part of `HID_SYNC` (rules R254, R333, R334). -/
def State.syncMouse (s : State) (susp ready ok : Bool) : State :=
  if s.mouseWants then
    if susp then s.raise .usbSuspended
    else if ready then
      let t := s.emit (.usbSend .mouse (mouseReport s.cfg s.out.mouseMode s.mouse))
      if ok then { t with mouse := s.mouse.afterSend } else t.raise .usbNotReady
    else s.raise .usbNotReady
  else s

/-- `want_wakeup` (rules R253, R254): the bus is suspended and an interface has something to send. -/
def State.wantsWakeup (s : State) (susp : Bool) : Bool := susp && (s.kbdWants || s.mouseWants)

/-- The effect of `HID_SYNC` (rules R253 to R255): keyboard part, mouse part, then at most one wakeup request. -/
def State.hidSync (s : State) (susp kbdReady mouseReady kbdOk mouseOk : Bool) : State :=
  let s2 := (s.syncKbd susp kbdReady kbdOk).syncMouse susp mouseReady mouseOk
  if s.wantsWakeup susp then s2.emit .usbRemoteWakeup else s2

/-- The keyboard switch of rule R257 to a mode already found defined and available: clear, tell the PS/2 side, flip. -/
def State.switchKbd (s : State) (m : KbdMode) : State :=
  let t := s.hidClear.emit .ps2Clear
  { t with out := { t.out with kbdMode := m } }

/-- The mouse switch of rule R258. -/
def State.switchMouse (s : State) (m : MouseMode) : State :=
  let t := s.hidClear.emit .ps2Clear
  { t with out := { t.out with mouseMode := m } }

/-- The effect and the returned value of `OUT_SET_KBD` (rules R257, R259, R335). -/
def State.outSetKbd (s : State) (mode : ModeCode) : State × Bool :=
  match selectKbd s.cfg mode with
  | some m => (s.switchKbd m, true)
  | none => (s.raise .modeUnavailable, false)

/-- The effect and the returned value of `OUT_SET_MOUSE` (rules R258, R259, R335). -/
def State.outSetMouse (s : State) (mode : ModeCode) : State × Bool :=
  match selectMouse s.cfg mode with
  | some m => (s.switchMouse m, true)
  | none => (s.raise .modeUnavailable, false)

/-- `HID_CLEAR` (rule R256). -/
def execHidClear (s : State) : Host.Outcome State Fault Refusal := .next s.hidClear

/-- `HID_TICK_MS` (rule R250). -/
def execHidTickMs (kbdReady mouseReady : Bool) (s : State) : Host.Outcome State Fault Refusal :=
  .next (s.hidTick kbdReady mouseReady)

/-- `HID_SYNC` (rules R253 to R255). -/
def execHidSync (susp kbdReady mouseReady kbdOk mouseOk : Bool) (s : State) : Host.Outcome State Fault Refusal :=
  .next (s.hidSync susp kbdReady mouseReady kbdOk mouseOk)

/-- `OUT_SET_KBD` (rule R257). -/
def execOutSetKbd (mode : ModeCode) (s : State) : Host.Outcome State Fault Refusal :=
  .next ((s.outSetKbd mode).1.returning (s.outSetKbd mode).2)

/-- `OUT_SET_MOUSE` (rule R258). -/
def execOutSetMouse (mode : ModeCode) (s : State) : Host.Outcome State Fault Refusal :=
  .next ((s.outSetMouse mode).1.returning (s.outSetMouse mode).2)

end Sys2Proof.Machine
end

