-- ==== Sys2Proof/Machine/Command.lean ====
section
/-! DEFINITION. Command decode and response (`spec/46_command_decode.md`): one operation per command, `HANDLE` (R290)
over them, and the meanings of the request-frame instructions. An instruction of this file is what `HANDLE` does
with a frame of its class; `HANDLE` runs inside `LINK_BYTE` (`Machine/Link.lean`). -/

namespace Sys2Proof.Machine

/-- The status a command produces (rule R290). -/
inductive NewStatus where
  /-- "carries no new status" -/
  | none
  /-- build the flag byte -/
  | ok
  /-- a plain code -/
  | code (b : Byte)
deriving DecidableEq, Repr

/-- The status byte `respond` sends (rule R305). -/
def State.responseCode (s : State) : NewStatus → Byte
  | .none => s.cdr.prevStatus
  | .ok => s.okStatus
  | .code b => b

/-- The response frame that carries a status byte (rules R117, R305). -/
def State.responseFrame (s : State) (code : Byte) : Frame :=
  sealFrame s.cfg s.cfg.respMagic code s.activeMask s.cfg.avail 0 0

/-- `respond` (rule R305). -/
def State.respond (s : State) (new : NewStatus) : State :=
  { s.emit (.respOut (s.responseFrame (s.responseCode new))) with
    cdr := { s.cdr with prevStatus := s.responseCode new } }

/-- The reboot-required flag, set after the response when the switch was made (rule R306). -/
def State.requestReboot (s : State) (switched : Bool) : State :=
  { s with cdr := { s.cdr with rebootReq := s.cdr.rebootReq || switched } }

/-- `CMD_PING` (rule R292). -/
def State.cmdPing (s : State) : State := s.respond .ok

/-- `CMD_REPEAT` (rule R293). -/
def State.cmdRepeat (s : State) : State := s.respond .none

/-- `CMD_SET_KBD` (rules R294, R306). -/
def State.cmdSetKbd (s : State) (mode : ModeCode) : State :=
  ((s.outSetKbd mode).1.respond .ok).requestReboot (s.outSetKbd mode).2

/-- `CMD_SET_MOUSE` (rules R295, R306). -/
def State.cmdSetMouse (s : State) (mode : ModeCode) : State :=
  ((s.outSetMouse mode).1.respond .ok).requestReboot (s.outSetMouse mode).2

/-- `CMD_SET_CONNECTED` (rule R296). -/
def State.cmdSetConnected (s : State) : State := s.respond .ok

/-- `CMD_CLEAR_HID` (rule R297). -/
def State.cmdClearHid (s : State) : State := s.hidClear.respond .ok

/-- Where a key event goes (rule R298). -/
def State.routeKey (s : State) (code : Byte) (pressed : Bool) : State :=
  match s.out.kbdMode with
  | .usb => s.hidKey code pressed
  | .ps2 => s.emit (.ps2KeyEvent code pressed)
  | .none => s

/-- `CMD_KEY` (rule R298). -/
def State.cmdKey (s : State) (code : Byte) (pressed : Bool) : State := (s.routeKey code pressed).respond .ok

/-- Where a mouse event goes (rules R299 to R302): to the PS/2 mouse emulation in mode `M_PS2`, else to the report
builder, which gates itself. -/
def State.routeMouse (s : State) (kind : MouseKind) (a b : Half) (usb : State) : State :=
  if s.out.mouseMode = .ps2 then s.emit (.ps2MouseEvent kind a b) else usb

/-- `CMD_MOUSE_BTN` (rule R299). Bits 7..5 of its operands have no effect (rule R231, entry U14), or, by the other
reading of mode `M_PS2`, are forwarded (assumption log 25). -/
def State.cmdMouseBtn (s : State) (sel st : Byte) : State :=
  (s.routeMouse .btn (buttonOperand s.cfg sel) (buttonOperand s.cfg st) (s.hidMbtn sel st)).respond .ok

/-- `CMD_MOUSE_ABS` (rule R300). -/
def State.cmdMouseAbs (s : State) (x y : Half) : State := (s.routeMouse .abs x y (s.hidMabs x y)).respond .ok

/-- `CMD_MOUSE_REL` (rule R301). -/
def State.cmdMouseRel (s : State) (dx dy : Byte) : State :=
  (s.routeMouse .rel (sext16 dx) (sext16 dy) (s.hidMrel dx dy)).respond .ok

/-- `CMD_MOUSE_WHEEL` (rule R302). -/
def State.cmdMouseWheel (s : State) (h v : Byte) : State :=
  (s.routeMouse .wheel (sext16 h) (sext16 v) (s.hidMwheel h v)).respond .ok

/-- An unknown command (rules R303, R322). -/
def State.cmdUnknown (s : State) : State := (s.raise .invalidCommand).respond (.code s.cfg.st.invalid)

/-- An invalid frame (rules R291, R321). -/
def State.frameInvalid (s : State) : State := (s.raise .checksumError).respond (.code s.cfg.st.cksumErr)

/-- The link timeout (rules R307, R323): the report state is cleared first, then the response goes out. -/
def State.linkTimeout (s : State) : State := ((s.raise .linkTimeout).hidClear).respond (.code s.cfg.st.timeout)

/-- The command of a valid frame (rule R290). -/
def State.runCommand (s : State) (f : Frame) : State :=
  if f[1] = s.cfg.cmd.ping then s.cmdPing
  else if f[1] = s.cfg.cmd.rpt then s.cmdRepeat
  else if f[1] = s.cfg.cmd.setKbd then s.cmdSetKbd (mode3 f[2])
  else if f[1] = s.cfg.cmd.setMouse then s.cmdSetMouse (mode3 f[2])
  else if f[1] = s.cfg.cmd.setConnected then s.cmdSetConnected
  else if f[1] = s.cfg.cmd.clearHid then s.cmdClearHid
  else if f[1] = s.cfg.cmd.key then s.cmdKey f[2] (boolOf f[3])
  else if f[1] = s.cfg.cmd.mouseAbs then s.cmdMouseAbs (s16Of f[2] f[3]) (s16Of f[4] f[5])
  else if f[1] = s.cfg.cmd.mouseBtn then s.cmdMouseBtn f[2] f[3]
  else if f[1] = s.cfg.cmd.mouseWheel then s.cmdMouseWheel f[2] f[3]
  else if f[1] = s.cfg.cmd.mouseRel then s.cmdMouseRel f[2] f[3]
  else s.cmdUnknown

/-- `HANDLE` (rule R290). -/
def State.handle (s : State) (f : Frame) : State :=
  if validate s.cfg f then s.runCommand f else s.frameInvalid

/-- `CMD_PING` (rule R292). -/
def execCmdPing (s : State) : Host.Outcome State Fault Refusal := .next s.cmdPing

/-- `CMD_REPEAT` (rule R293). -/
def execCmdRepeat (s : State) : Host.Outcome State Fault Refusal := .next s.cmdRepeat

/-- `CMD_SET_KBD` (rule R294). -/
def execCmdSetKbd (mode : ModeCode) (s : State) : Host.Outcome State Fault Refusal := .next (s.cmdSetKbd mode)

/-- `CMD_SET_MOUSE` (rule R295). -/
def execCmdSetMouse (mode : ModeCode) (s : State) : Host.Outcome State Fault Refusal := .next (s.cmdSetMouse mode)

/-- `CMD_SET_CONNECTED` (rule R296). -/
def execCmdSetConnected (s : State) : Host.Outcome State Fault Refusal := .next s.cmdSetConnected

/-- `CMD_CLEAR_HID` (rule R297). -/
def execCmdClearHid (s : State) : Host.Outcome State Fault Refusal := .next s.cmdClearHid

/-- `CMD_KEY` (rule R298). -/
def execCmdKey (code : Byte) (pressed : Bool) (s : State) : Host.Outcome State Fault Refusal :=
  .next (s.cmdKey code pressed)

/-- `CMD_MOUSE_ABS` (rule R300). -/
def execCmdMouseAbs (x y : Half) (s : State) : Host.Outcome State Fault Refusal := .next (s.cmdMouseAbs x y)

/-- `CMD_MOUSE_BTN` (rule R299). -/
def execCmdMouseBtn (sel st : Byte) (s : State) : Host.Outcome State Fault Refusal := .next (s.cmdMouseBtn sel st)

/-- `CMD_MOUSE_WHEEL` (rule R302). -/
def execCmdMouseWheel (h v : Byte) (s : State) : Host.Outcome State Fault Refusal := .next (s.cmdMouseWheel h v)

/-- `CMD_MOUSE_REL` (rule R301). -/
def execCmdMouseRel (dx dy : Byte) (s : State) : Host.Outcome State Fault Refusal := .next (s.cmdMouseRel dx dy)

/-- A valid frame with an unknown command (rule R303). -/
def execCmdUnknown (s : State) : Host.Outcome State Fault Refusal := .next s.cmdUnknown

/-- An invalid frame (rule R291). -/
def execFrameInvalid (s : State) : Host.Outcome State Fault Refusal := .next s.frameInvalid

end Sys2Proof.Machine
end

