-- ==== Sys2Proof/Machine/Link.lean ====
section
/-! DEFINITION. The frame checksum validator: `LINK_BYTE`, `LINK_TICK_MS`, `LINK_RESYNC`
(`spec/45_frame_validator.md`). -/

namespace Sys2Proof.Machine

/-- The byte is stored and the silence counter reset before anything else (rules R270, R338). -/
def State.storeLinkByte (s : State) (b : Byte) : State :=
  let t := s.memWrite (.fbuf s.fcv.fidx) b
  { t with fcv := { t.fcv with silentMs := 0 } }

/-- The frame index is written (rules R270, R273, R274). -/
def State.setFidx (s : State) (i : Fin 8) : State := { s with fcv := { s.fcv with fidx := i } }

/-- The effect of `LINK_BYTE` (rules R270, R271): the eighth byte hands the frame to `HANDLE`, after `fidx` has been
reset. -/
def State.linkByte (s : State) (b : Byte) : State :=
  let t := s.storeLinkByte b
  if h : s.fcv.fidx.val < 7 then t.setFidx ⟨s.fcv.fidx.val + 1, by omega⟩
  else (t.setFidx 0).handle t.fcv.fbuf

/-- The partial frame is discarded and the receiver re-armed (rules R273, R274). -/
def State.discardFrame (s : State) : State := { s with fcv := { s.fcv with fidx := 0, silentMs := 0 } }

/-- The silence count after one more tick (rule R272). -/
def State.silentNext (s : State) : Nat := min (s.fcv.silentMs + 1) s.cfg.linkTimeoutMs

/-- The effect of `LINK_TICK_MS` (rules R272, R273): an idle link never times out. -/
def State.linkTick (s : State) : State :=
  if s.fcv.fidx = 0 then s
  else if s.cfg.linkTimeoutMs ≤ s.silentNext then s.discardFrame.linkTimeout
  else { s with fcv := { s.fcv with silentMs := s.silentNext } }

/-- `LINK_BYTE` (rule R270). -/
def execLinkByte (b : Byte) (s : State) : Host.Outcome State Fault Refusal := .next (s.linkByte b)

/-- `LINK_TICK_MS` (rule R272). -/
def execLinkTickMs (s : State) : Host.Outcome State Fault Refusal := .next s.linkTick

/-- `LINK_RESYNC` (rules R274, R324): silent, no response. -/
def execLinkResync (s : State) : Host.Outcome State Fault Refusal := .next (s.discardFrame.raise .linkBusError)

end Sys2Proof.Machine
end

