-- ==== Sys2Proof/Machine/Reset.lean ====
section
/-! DEFINITION. `RESET` (`spec/70_reset_and_hazards.md` rule R360) and the reserved values of `op_sel`
(`spec/30_encoding.md` rule R132). -/

namespace Sys2Proof.Machine

/-- The effect of `RESET` (rule R360): every field of the record takes its reset value; the parameters are not
touched (R362), nothing is emitted, and what the environment has presented and recorded stays. -/
def State.resetBlock (s : State) (bootActive : Byte) : State :=
  { State.resetWith s.cfg bootActive with port := s.port, trace := s.trace, raised := s.raised, ret := s.ret }

/-- `RESET` (rule R360). -/
def execReset (bootActive : Byte) (s : State) : Host.Outcome State Fault Refusal := .next (s.resetBlock bootActive)

/-- A reserved `op_sel` value names no operation: no state change, no output (rule R132; assumption log 11). -/
def State.rejectReserved (s : State) : State := s

/-- `op_sel` 0x00 (rule R132). -/
def execReserved00 (s : State) : Host.Outcome State Fault Refusal := .next s.rejectReserved

/-- `op_sel` 0x05 (rule R132). -/
def execReserved05 (s : State) : Host.Outcome State Fault Refusal := .next s.rejectReserved

/-- `op_sel` 0x06 (rule R132). -/
def execReserved06 (s : State) : Host.Outcome State Fault Refusal := .next s.rejectReserved

/-- `op_sel` 0x07 (rule R132). -/
def execReserved07 (s : State) : Host.Outcome State Fault Refusal := .next s.rejectReserved

/-- `op_sel` 0x15 (rule R132). -/
def execReserved15 (s : State) : Host.Outcome State Fault Refusal := .next s.rejectReserved

/-- `op_sel` 0x16 (rule R132). -/
def execReserved16 (s : State) : Host.Outcome State Fault Refusal := .next s.rejectReserved

/-- `op_sel` 0x17 (rule R132). -/
def execReserved17 (s : State) : Host.Outcome State Fault Refusal := .next s.rejectReserved

/-- `op_sel` 0x18 (rule R132). -/
def execReserved18 (s : State) : Host.Outcome State Fault Refusal := .next s.rejectReserved

/-- `op_sel` 0x19 (rule R132). -/
def execReserved19 (s : State) : Host.Outcome State Fault Refusal := .next s.rejectReserved

/-- `op_sel` 0x1A (rule R132). -/
def execReserved1A (s : State) : Host.Outcome State Fault Refusal := .next s.rejectReserved

/-- `op_sel` 0x1B (rule R132). -/
def execReserved1B (s : State) : Host.Outcome State Fault Refusal := .next s.rejectReserved

/-- `op_sel` 0x1C (rule R132). -/
def execReserved1C (s : State) : Host.Outcome State Fault Refusal := .next s.rejectReserved

/-- `op_sel` 0x1D (rule R132). -/
def execReserved1D (s : State) : Host.Outcome State Fault Refusal := .next s.rejectReserved

/-- `op_sel` 0x1E (rule R132). -/
def execReserved1E (s : State) : Host.Outcome State Fault Refusal := .next s.rejectReserved

end Sys2Proof.Machine
end

