-- ==== Sys2Proof/Machine/Task.lean ====
section
/-! DEFINITION. The PS/2 task: `PS2_INIT`, `PS2_ENQ`, the six steps of `PS2_TASK` (`spec/41_ps2_phy_task.md`), and
the three classes of received word (`spec/30_encoding.md` rule R124). -/

namespace Sys2Proof.Machine

/-- What `PS2_INIT` leaves of a PHY instance (rule R180). -/
def Phy.initialised : Phy := { Phy.reset with inited := true }

/-- `PS2_INIT` (rule R180). -/
def execPs2Init (d : Dev) (s : State) : Host.Outcome State Fault Refusal := .next (s.setPhy d Phy.initialised)

/-- `PS2_ENQ` on an initialised instance (rule R182). -/
def State.enqueue (s : State) (d : Dev) (b : Byte) : State :=
  let p := s.phy d
  let ok := pushOk s.cfg.byteqDepth p.byteq
  ((s.setPhy d { p with byteq := pushed s.cfg.byteqDepth p.byteq b }).raiseIf (!ok) (.byteQueueFull d)).returning ok

/-- `PS2_ENQ` (rule R182): before `PS2_INIT` it returns `false` and does nothing (rule R181). -/
def execPs2Enq (d : Dev) (b : Byte) (s : State) : Host.Outcome State Fault Refusal :=
  if (s.phy d).inited then .next (s.enqueue d b) else .next (s.returning false)

/-- T1, packetise (rule R184): up to `PACK_MAX` bytes of the byte queue become one packet, lost whole when the packet
queue is full. -/
def taskPacketise (c : Config) (d : Dev) (p : Phy) : Phy × List ErrEvent :=
  if p.byteq = [] then (p, [])
  else
    ({ p with
        byteq := p.byteq.drop c.packMax
        packq := pushed c.packqDepth p.packq { bytes := p.byteq.take c.packMax } },
      if pushOk c.packqDepth p.packq then [] else [.packetQueueFull d])

/-- The gate of T2 (rule R185), but for the non-empty packet queue. -/
def taskGate (c : Config) (p : Phy) : Bool := p.txf.isEmpty && p.busIdle c && !p.err

/-- T2, retire the head packet (rule R186) or hand over its next byte (rule R187). -/
def taskTransmit (c : Config) (p : Phy) : Phy :=
  match p.packq with
  | [] => p
  | pk :: rest =>
    if taskGate c p then
      if p.sent = pk.bytes.length then { p with sent := 0, packq := rest }
      else
        match pk.bytes[p.sent]? with
        | some b =>
          { p with sent := p.sent + 1, lastTx := b, txf := pushed c.txfDepth p.txf (ps2Frame b) }
        | none => p
    else p

/-- T3, transmit-error recovery (rule R188). -/
def taskRecover (p : Phy) : Phy :=
  if p.err then { p with sent := 0, txf := [], err := false } else p

/-- A word pushed to the transmit FIFO past the gate (rules R189, R191, R192). -/
def Phy.pushTx (c : Config) (p : Phy) (f : LineFrame) : Phy := { p with txf := pushed c.txfDepth p.txf f }

/-- What that push raises (rule R332). -/
def Phy.pushTxErrs (c : Config) (d : Dev) (p : Phy) : List ErrEvent :=
  if pushOk c.txfDepth p.txf then [] else [.txFifoFull d]

/-- T4, NAK after a receive frame error (rule R189). -/
def taskNak (c : Config) (d : Dev) (p : Phy) : Phy × List ErrEvent :=
  if p.rxFerr then ({ p.pushTx c (ps2Frame c.resendByte) with rxFerr := false }, p.pushTxErrs c d) else (p, [])

/-- T1 to T4 (rule R183), each reading what the previous ones left. -/
def taskHead (c : Config) (d : Dev) (p : Phy) : PhyOut :=
  let p1 := taskPacketise c d p
  let p4 := taskNak c d (taskRecover (taskTransmit c p1.1))
  { phy := p4.1, errs := p1.2 ++ p4.2, events := [] }

/-- T5, parity mismatch (rule R191): a NAK, and nothing else. -/
def State.rxBadParity (s : State) (d : Dev) : State :=
  let p := s.phy d
  s.applyPhy d
    { phy := p.pushTx s.cfg (ps2Frame s.cfg.resendByte)
      errs := p.pushTxErrs s.cfg d ++ [.rxParityError d], events := [] }

/-- T5, resend request (rules R192, R328): the last packet byte is replayed. -/
def State.rxResend (s : State) (d : Dev) : State :=
  let p := s.phy d
  s.applyPhy d
    { phy := p.pushTx s.cfg (ps2Frame p.lastTx)
      errs := [.resendRequest d] ++ p.pushTxErrs s.cfg d, events := [] }

/-- T6, accept and deliver (rule R193). -/
def State.rxDeliver (s : State) (d : Dev) (data : Byte) : State :=
  let p := s.phy d
  s.applyPhy d
    { phy := { p with byteq := [], packq := [], sent := 0, lastRx := data }
      errs := [], events := [.ps2Rx d data p.lastRx] }

/-- T5 and T6 on a word already popped (rules R190 to R193): parity first, then the sentinel (rule R338). -/
def State.rxDispatch (s : State) (d : Dev) (w : RxWord) : State :=
  if rxTag w ≠ oddParity (rxByte w) then s.rxBadParity d
  else if rxByte w = s.cfg.resendByte then s.rxResend d
  else s.rxDeliver d (rxByte w)

/-- T5, pop (rule R190): at most one word a poll. -/
def State.taskReceive (s : State) (d : Dev) : State :=
  match (s.phy d).rxf with
  | [] => s
  | w :: rest => (s.setPhy d { s.phy d with rxf := rest }).rxDispatch d w

/-- `PS2_TASK` (rule R183): nothing before `PS2_INIT` (rule R181). -/
def execPs2Task (d : Dev) (s : State) : Host.Outcome State Fault Refusal :=
  if (s.phy d).inited then .next ((s.applyPhy d (taskHead s.cfg d (s.phy d))).taskReceive d) else .next s

/-- `RX_BADPARITY` (rule R191); the tag and the byte are not looked at further. -/
def execRxBadparity (d : Dev) (s : State) : Host.Outcome State Fault Refusal := .next (s.rxBadParity d)

/-- `RX_RESEND` (rule R192). -/
def execRxResend (d : Dev) (s : State) : Host.Outcome State Fault Refusal := .next (s.rxResend d)

/-- `RX_DATA` (rule R193). -/
def execRxData (d : Dev) (data : Byte) (s : State) : Host.Outcome State Fault Refusal := .next (s.rxDeliver d data)

end Sys2Proof.Machine
end

