-- ==== Sys2Proof/Machine/Dispatch.lean ====
section
/-! DEFINITION. One arm per constructor of `Instr`, in the opcode table's order. -/

namespace Sys2Proof.Machine

def exec (i : Instr) (s : State) : Host.Outcome State Fault Refusal :=
  match i with
  | .ps2Init d => Sys2Proof.Machine.execPs2Init d s
  | .ps2Enq d b => Sys2Proof.Machine.execPs2Enq d b s
  | .ps2Task d => Sys2Proof.Machine.execPs2Task d s
  | .engStep d hClk hData => Sys2Proof.Machine.execEngStep d hClk hData s
  | .hidKey code pressed => Sys2Proof.Machine.execHidKey code pressed s
  | .hidMbtn sel st => Sys2Proof.Machine.execHidMbtn sel st s
  | .hidMabs x y => Sys2Proof.Machine.execHidMabs x y s
  | .hidMrel dx dy => Sys2Proof.Machine.execHidMrel dx dy s
  | .hidMwheel h v => Sys2Proof.Machine.execHidMwheel h v s
  | .hidClear => Sys2Proof.Machine.execHidClear s
  | .hidTickMs kbdReady mouseReady => Sys2Proof.Machine.execHidTickMs kbdReady mouseReady s
  | .hidSync susp kbdReady mouseReady kbdOk mouseOk => Sys2Proof.Machine.execHidSync susp kbdReady mouseReady kbdOk mouseOk s
  | .linkByte b => Sys2Proof.Machine.execLinkByte b s
  | .linkTickMs => Sys2Proof.Machine.execLinkTickMs s
  | .outSetKbd mode => Sys2Proof.Machine.execOutSetKbd mode s
  | .outSetMouse mode => Sys2Proof.Machine.execOutSetMouse mode s
  | .linkResync => Sys2Proof.Machine.execLinkResync s
  | .reset bootActive => Sys2Proof.Machine.execReset bootActive s
  | .reserved00 => Sys2Proof.Machine.execReserved00 s
  | .reserved05 => Sys2Proof.Machine.execReserved05 s
  | .reserved06 => Sys2Proof.Machine.execReserved06 s
  | .reserved07 => Sys2Proof.Machine.execReserved07 s
  | .reserved15 => Sys2Proof.Machine.execReserved15 s
  | .reserved16 => Sys2Proof.Machine.execReserved16 s
  | .reserved17 => Sys2Proof.Machine.execReserved17 s
  | .reserved18 => Sys2Proof.Machine.execReserved18 s
  | .reserved19 => Sys2Proof.Machine.execReserved19 s
  | .reserved1A => Sys2Proof.Machine.execReserved1A s
  | .reserved1B => Sys2Proof.Machine.execReserved1B s
  | .reserved1C => Sys2Proof.Machine.execReserved1C s
  | .reserved1D => Sys2Proof.Machine.execReserved1D s
  | .reserved1E => Sys2Proof.Machine.execReserved1E s
  | .cmdPing => Sys2Proof.Machine.execCmdPing s
  | .cmdRepeat => Sys2Proof.Machine.execCmdRepeat s
  | .cmdSetKbd mode => Sys2Proof.Machine.execCmdSetKbd mode s
  | .cmdSetMouse mode => Sys2Proof.Machine.execCmdSetMouse mode s
  | .cmdSetConnected => Sys2Proof.Machine.execCmdSetConnected s
  | .cmdClearHid => Sys2Proof.Machine.execCmdClearHid s
  | .cmdKey code pressed => Sys2Proof.Machine.execCmdKey code pressed s
  | .cmdMouseAbs x y => Sys2Proof.Machine.execCmdMouseAbs x y s
  | .cmdMouseBtn sel st => Sys2Proof.Machine.execCmdMouseBtn sel st s
  | .cmdMouseWheel h v => Sys2Proof.Machine.execCmdMouseWheel h v s
  | .cmdMouseRel dx dy => Sys2Proof.Machine.execCmdMouseRel dx dy s
  | .cmdUnknown _ => Sys2Proof.Machine.execCmdUnknown s
  | .frameInvalid _ => Sys2Proof.Machine.execFrameInvalid s
  | .rxBadparity d _ _ => Sys2Proof.Machine.execRxBadparity d s
  | .rxResend d => Sys2Proof.Machine.execRxResend d s
  | .rxData d _ data => Sys2Proof.Machine.execRxData d data s
  | .ps2Frame d par data => Sys2Proof.Machine.execPs2Frame d par data s

end Sys2Proof.Machine
end

