-- ==== Sys2Proof/Machine/Fetch.lean ====
section
/-! DEFINITION. Where the block takes its words from (assumption log 8): the operation port, `FBUF`, the receive FIFO
and the transmit FIFO, and a word placed there so that the next step takes it. -/

namespace Sys2Proof.Machine

/-- An operation word, next on the port. -/
def State.placeOpWord (s : State) (w : OpWord) : State := { s with port := w :: s.port }

/-- Byte `i` of a request frame written as a 64-bit number with byte 0 most significant. -/
def frameByte (w i : Nat) : Byte := BitVec.ofNat 8 (w / 256 ^ (7 - i))

/-- A request frame: seven bytes have arrived and the eighth is next on the port. -/
def State.placeFrame (s : State) (w : Nat) : State :=
  { s with
    fcv := { s.fcv with
      fbuf := #v[frameByte w 0, frameByte w 1, frameByte w 2, frameByte w 3, frameByte w 4, frameByte w 5,
        frameByte w 6, s.fcv.fbuf[7]]
      fidx := 7 }
    port := mkOpw 0x10 false (fieldOfByte (frameByte w 7)) 0 :: s.port }

/-- A received word alone in the keyboard line's receive FIFO, steps T1 to T4 with nothing to do, and the poll next on
the port. -/
def State.placeRxWord (s : State) (w : RxWord) : State :=
  { s with
    phy0 := { s.phy0 with inited := true, byteq := [], packq := [], err := false, rxFerr := false, rxf := [w] }
    port := mkOpw 0x03 false 0 0 :: s.port }

/-- A line frame alone in the keyboard line's transmit FIFO, the bus idle, and an engine step with both wires
released next on the port. -/
def State.placeLineFrame (s : State) (f : LineFrame) : State :=
  { s with
    phy0 := { s.phy0 with
      inited := true, txf := [f], eng := { s.phy0.eng with st := .idle, idleCnt := s.cfg.idleHold } }
    port := mkOpw 0x04 false (fieldOfBits true true false false false) 0 :: s.port }

end Sys2Proof.Machine
end

