-- ==== Sys2Proof/Machine/Step.lean ====
section
/-! DEFINITION. One step of the machine: the next operation word on the port is taken, decoded and run. With an empty
port the environment invokes nothing and nothing changes (assumption log 1). -/

namespace Sys2Proof.Machine

/-- One step. Every operation word decodes, so that a step never refuses. -/
def step (s : State) : Host.Outcome State Fault Refusal :=
  match s.port with
  | [] => .next s
  | w :: rest => exec (decodeOpw w) (s.takeWord rest)

/-- `s` with the instruction of the opcode table whose bits are `w` placed where the very next step fetches it
(assumption log 8): an operation word on the port; a request frame in `FBUF`, its eighth byte arriving; a received
word at the head of the keyboard line's receive FIFO, the task polled; a line frame at the head of its transmit FIFO,
the bus idle, the engine stepped. -/
def State.withFetchWord (s : State) (nbits w : Nat) : State :=
  if nbits ≤ 16 then
    if w < 512 then s.placeRxWord (BitVec.ofNat 9 w) else s.placeLineFrame (BitVec.ofNat 11 w)
  else if nbits ≤ 40 then s.placeOpWord (BitVec.ofNat 38 w)
  else s.placeFrame w

end Sys2Proof.Machine
end

