-- ==== Sys2Proof/Safety.lean ====
section
/-! DEFINITION. The well-formedness of a state, from the ranges and invariants the spec gives its fields, and what a
safe step is. -/

namespace Sys2Proof.Machine

/-- A `TXW` word as the task builds it: start 0, stop 1, odd parity (rules R111, R112). -/
abbrev IsPs2Frame (f : LineFrame) : Prop := f = ps2Frame (frameData f)

/-- The engine's ranges: `bitn` (R33) within its range for the engine's state, `idle_cnt` (R36), the clock wire always
released between steps and the data wire released but in a transmission (R37). -/
abbrev Eng.Inv (c : Config) (e : Eng) : Prop :=
  e.bitn ≤ 11 ∧ e.idleCnt ≤ c.idleHold ∧ e.dClk = true ∧
  (e.st ≠ .transmitting → e.dData = true) ∧
  (e.st = .transmitting → e.bitn ≤ 10 ∧ IsPs2Frame e.txSh) ∧
  (e.st = .receiving → 1 ≤ e.bitn)

/-- The packet progress counter is within the head packet (R25); with no packet there is no progress. -/
abbrev Phy.ProgressInv (p : Phy) : Prop :=
  p.sent ≤ (p.packq.head?.elim 0 fun pk => pk.bytes.length)

/-- A PHY instance: capacities (R82), packets of 1..`PACK_MAX` bytes (R115), progress (R25), frames in the transmit
FIFO (R112), the engine, and nothing but reset values before `PS2_INIT` (R181). -/
abbrev Phy.Inv (c : Config) (p : Phy) : Prop :=
  (p.byteq.length ≤ c.byteqDepth ∧ p.packq.length ≤ c.packqDepth ∧ p.txf.length ≤ c.txfDepth ∧
    p.rxf.length ≤ c.rxfDepth) ∧
  (∀ pk ∈ p.packq, 1 ≤ pk.bytes.length ∧ pk.bytes.length ≤ c.packMax) ∧
  p.ProgressInv ∧ (∀ f ∈ p.txf, IsPs2Frame f) ∧ p.eng.Inv c ∧
  (p.inited = false → p = Phy.reset)

/-- The selected modes are available ones (R257 to R259, R361). -/
abbrev Out.Inv (c : Config) (o : Out) : Prop := kbdAvailable c o.kbdMode ∧ mouseAvailable c o.mouseMode

/-- The hysteresis counter counts only while online and stays below `HYST_MS` (R47, R252). -/
abbrev Iface.Inv (c : Config) (x : Iface) : Prop := x.unreadyMs < c.hystMs ∧ (x.online = false → x.unreadyMs = 0)

/-- No two slots hold the same code and none a modifier code (R44, R217). -/
abbrev KeysInv (keys : Vector Byte 6) : Prop :=
  (∀ i j : Fin 6, keys[i] ≠ 0 → keys[i] = keys[j] → i = j) ∧ ∀ j : Fin 6, isModifier keys[j] = false

/-- The keyboard state: R217, R47, and nothing held while the keyboard is no USB keyboard (R218, R257). -/
abbrev Kbd.Inv (c : Config) (mode : KbdMode) (k : Kbd) : Prop :=
  KeysInv k.keys ∧ k.toIface.Inv c ∧ (mode ≠ .usb → k.mod = 0 ∧ k.keys = #v[0, 0, 0, 0, 0, 0])

/-- The mouse state: bits 7..5 of the buttons are 0 (R240), R52, and only the active submode's fields are in use
(R235, R239). -/
abbrev Mouse.Inv (c : Config) (mode : MouseMode) (m : Mouse) : Prop :=
  m.buttons &&& 0xE0#8 = 0 ∧ m.toIface.Inv c ∧
  (absMouse mode = false → m.ax = 0 ∧ m.ay = 0) ∧ (relMouse mode = false → m.dx = 0 ∧ m.dy = 0) ∧
  (usbMouse mode = false → m.buttons = 0 ∧ m.wheel = 0)

/-- The silence counter counts only while a partial frame is held and stays below the timeout, or at 0 where the timeout is
0 (R55, R272). -/
abbrev Fcv.Inv (c : Config) (f : Fcv) : Prop :=
  (f.silentMs = 0 ∨ f.silentMs < c.linkTimeoutMs) ∧ (f.fidx = 0 → f.silentMs = 0)

/-- The stored status is one of the four plain codes or has bit 7 set, so it is never 0 (R125, R309). -/
abbrev Cdr.Inv (c : Config) (r : Cdr) : Prop :=
  r.prevStatus ∈ [c.st.noneYet, c.st.cksumErr, c.st.invalid, c.st.timeout] ∨ r.prevStatus.getLsbD 7 = true

/-- The invariant of the block, under parameters that the spec allows. -/
abbrev State.Inv (s : State) : Prop :=
  s.cfg.Wf ∧ s.phy0.Inv s.cfg ∧ s.phy1.Inv s.cfg ∧ s.out.Inv s.cfg ∧ s.kbd.Inv s.cfg s.out.kbdMode ∧
  s.mouse.Inv s.cfg s.out.mouseMode ∧ s.fcv.Inv s.cfg ∧ s.cdr.Inv s.cfg

/-- The instructions of a list, one after another, up to the first that stops. -/
def runInstrs : List Instr → State → Host.Outcome State Fault Refusal
  | [], s => .next s
  | i :: is, s =>
    match exec i s with
    | .next t => runInstrs is t
    | .fault r => .fault r
    | .refused r => .refused r

/-- Along the events `es` every byte delivered from line `d` is paired with the one delivered before it, from the
previous byte `a` up to the last one `b` (rule R194). -/
def PairChain (d : Dev) : Byte → List Event → Byte → Prop
  | a, [], b => a = b
  | a, .ps2Rx e cur prev :: es, b => if e = d then prev = a ∧ PairChain d cur es b else PairChain d a es b
  | a, _ :: es, b => PairChain d a es b

/-- How many response frames are among the events. -/
def responses : List Event → Nat
  | [] => 0
  | .respOut _ :: es => responses es + 1
  | _ :: es => responses es

/-- The line that an operation on a PHY instance, or a word taken from one of its FIFOs, is about. -/
def phyLine : Instr → Option Dev
  | .ps2Init d => some d
  | .ps2Enq d _ => some d
  | .ps2Task d => some d
  | .engStep d _ _ => some d
  | .rxBadparity d _ _ => some d
  | .rxResend d => some d
  | .rxData d _ _ => some d
  | .ps2Frame d _ _ => some d
  | .hidKey _ _ => none
  | .hidMbtn _ _ => none
  | .hidMabs _ _ => none
  | .hidMrel _ _ => none
  | .hidMwheel _ _ => none
  | .hidClear => none
  | .hidTickMs _ _ => none
  | .hidSync _ _ _ _ _ => none
  | .linkByte _ => none
  | .linkTickMs => none
  | .outSetKbd _ => none
  | .outSetMouse _ => none
  | .linkResync => none
  | .reset _ => none
  | .reserved00 => none
  | .reserved05 => none
  | .reserved06 => none
  | .reserved07 => none
  | .reserved15 => none
  | .reserved16 => none
  | .reserved17 => none
  | .reserved18 => none
  | .reserved19 => none
  | .reserved1A => none
  | .reserved1B => none
  | .reserved1C => none
  | .reserved1D => none
  | .reserved1E => none
  | .cmdPing => none
  | .cmdRepeat => none
  | .cmdSetKbd _ => none
  | .cmdSetMouse _ => none
  | .cmdSetConnected => none
  | .cmdClearHid => none
  | .cmdKey _ _ => none
  | .cmdMouseAbs _ _ => none
  | .cmdMouseBtn _ _ => none
  | .cmdMouseWheel _ _ => none
  | .cmdMouseRel _ _ => none
  | .cmdUnknown _ => none
  | .frameInvalid _ => none

/-- The host's drive of the data wire over the twelve slots of `H2D` (rules R114, R137), the acknowledge slot
released. -/
def hostSendBits (data : Byte) (par : Bool) : List Bool :=
  [false, data.getLsbD 0, data.getLsbD 1, data.getLsbD 2, data.getLsbD 3, data.getLsbD 4, data.getLsbD 5,
    data.getLsbD 6, data.getLsbD 7, par, true, true]

/-- A safe step: the machine goes on. "No error is fatal; none stops the block" (rule R320). -/
def State.Safe (s : State) : Prop := ∃ t, step s = .next t

end Sys2Proof.Machine
end

