-- ==== Sys2Proof/Certificates/Slice0/Obligations.lean ====
section
/-! DEFINITION. The statements for the provers, from the numbered rules of the spec. Every statement about a state is
about every setting of the parameters, since a state carries its parameters (assumption log 3). -/

open Sys2Proof Sys2Proof.Machine

/-! ### Encodings -/

/-- Rules R110, R116, R122 to R124, R130, R131: the decoder reads every well-formed instruction back from its word,
every operand at every value, under every setting of the parameters the spec allows. -/
def Obligations.DecodeOfEncodeIsTheInstruction : Prop :=
  ∀ c : Config, c.Wf → ∀ i : Instr, i.wf c = true → decode c (encode c i) = .ok i

/-- Rules R124, R128, R132: whatever the decoder answers for an operation word, a request frame or a received word is
well formed. Rules R130, R131: each operation takes its operands from the bits of the table, and every unused field and
unused bit of a used field is ignored, whatever it holds (the reserved selectors: ReservedSelectorsChangeNothing). -/
def Obligations.DecodedInstructionsAreWellFormed : Prop :=
  (∀ c : Config, (∀ w : OpWord, (decodeOpw w).wf c = true) ∧ (∀ f : Frame, (decodeReq c f).wf c = true) ∧
    ∀ (d : Dev) (w : RxWord), (decodeRxw c d w).wf c = true) ∧
  ∀ (w : OpWord) (d : Dev) (a b : Half), d = (if w.getLsbD 32 then .line1 else .line0) →
    a = w.extractLsb' 16 16 → b = w.extractLsb' 0 16 →
    (w.extractLsb' 33 5 = 0x01 → decodeOpw w = .ps2Init d) ∧
    (w.extractLsb' 33 5 = 0x02 → decodeOpw w = .ps2Enq d (a.extractLsb' 0 8)) ∧
    (w.extractLsb' 33 5 = 0x03 → decodeOpw w = .ps2Task d) ∧
    (w.extractLsb' 33 5 = 0x04 → decodeOpw w = .engStep d (a.getLsbD 0) (a.getLsbD 1)) ∧
    (w.extractLsb' 33 5 = 0x08 → decodeOpw w = .hidKey (a.extractLsb' 0 8) (b.getLsbD 0)) ∧
    (w.extractLsb' 33 5 = 0x09 → decodeOpw w = .hidMbtn (a.extractLsb' 0 8) (b.extractLsb' 0 8)) ∧
    (w.extractLsb' 33 5 = 0x0A → decodeOpw w = .hidMabs a b) ∧
    (w.extractLsb' 33 5 = 0x0B → decodeOpw w = .hidMrel (a.extractLsb' 0 8) (b.extractLsb' 0 8)) ∧
    (w.extractLsb' 33 5 = 0x0C → decodeOpw w = .hidMwheel (a.extractLsb' 0 8) (b.extractLsb' 0 8)) ∧
    (w.extractLsb' 33 5 = 0x0D → decodeOpw w = .hidClear) ∧
    (w.extractLsb' 33 5 = 0x0E → decodeOpw w = .hidTickMs (a.getLsbD 0) (a.getLsbD 1)) ∧
    (w.extractLsb' 33 5 = 0x0F →
      decodeOpw w = .hidSync (a.getLsbD 0) (a.getLsbD 1) (a.getLsbD 2) (a.getLsbD 3) (a.getLsbD 4)) ∧
    (w.extractLsb' 33 5 = 0x10 → decodeOpw w = .linkByte (a.extractLsb' 0 8)) ∧
    (w.extractLsb' 33 5 = 0x11 → decodeOpw w = .linkTickMs) ∧
    (w.extractLsb' 33 5 = 0x12 → decodeOpw w = .outSetKbd (a.extractLsb' 0 3)) ∧
    (w.extractLsb' 33 5 = 0x13 → decodeOpw w = .outSetMouse (a.extractLsb' 0 3)) ∧
    (w.extractLsb' 33 5 = 0x14 → decodeOpw w = .linkResync) ∧
    (w.extractLsb' 33 5 = 0x1F → decodeOpw w = .reset (a.extractLsb' 0 8))

/-- Rules R111, R113, R124: no bit of a received word or of a line frame is dropped; encoding what was decoded gives
the word back. That a line frame of either parity decodes, though R111 gives it odd parity, and that any other word is
refused by name, is the model's choice (assumption log 20). -/
def Obligations.EncodeOfDecodedPs2WordIsTheWord : Prop :=
  (∀ (c : Config) (d : Dev) (w : RxWord), encode c (decodeRxw c d w) = .rxw d w) ∧
    ∀ (c : Config) (d : Dev) (f : LineFrame),
      (f.getLsbD 0 = false ∧ f.getLsbD 10 = true →
        ∃ i, decode c (.ps2f d f) = .ok i ∧ encode c i = .ps2f d f) ∧
      (f.getLsbD 0 = true ∨ f.getLsbD 10 = false → decode c (.ps2f d f) = .error .notALineFrame)

/-- Rule R128 (c): argument bytes a command does not use, and bits 7..3 of a mode argument, have no effect on what is
decoded. -/
def Obligations.UnusedArgumentBitsAreIgnored : Prop :=
  ∀ (c : Config), c.Wf → ∀ a0 a1 a2 a3 : Byte,
    (∀ m : ModeCode, a0.extractLsb' 0 3 = m →
      decodeReq c (mkReq c c.cmd.setKbd a0 a1 a2 a3) = .cmdSetKbd m ∧
      decodeReq c (mkReq c c.cmd.setMouse a0 a1 a2 a3) = .cmdSetMouse m) ∧
    decodeReq c (mkReq c c.cmd.ping a0 a1 a2 a3) = .cmdPing ∧
    decodeReq c (mkReq c c.cmd.rpt a0 a1 a2 a3) = .cmdRepeat ∧
    decodeReq c (mkReq c c.cmd.setConnected a0 a1 a2 a3) = .cmdSetConnected ∧
    decodeReq c (mkReq c c.cmd.clearHid a0 a1 a2 a3) = .cmdClearHid ∧
    decodeReq c (mkReq c c.cmd.key a0 a1 a2 a3) = .cmdKey a0 (a1 != 0) ∧
    decodeReq c (mkReq c c.cmd.mouseBtn a0 a1 a2 a3) = .cmdMouseBtn a0 a1 ∧
    decodeReq c (mkReq c c.cmd.mouseRel a0 a1 a2 a3) = .cmdMouseRel a0 a1 ∧
    decodeReq c (mkReq c c.cmd.mouseWheel a0 a1 a2 a3) = .cmdMouseWheel a0 a1 ∧
    decodeReq c (mkReq c c.cmd.mouseAbs a0 a1 a2 a3) = .cmdMouseAbs (a0 ++ a1) (a2 ++ a3)

/-- Vectors VW1, VQ1, VF2 of `spec/95_test_vectors.md`: a few words decode to the instruction they stand for. That a
16-bit number below 512 is read as a received word and any other as a line frame, and that both are of the keyboard
line, is the model's choice (assumption logs 8, 9). -/
def Obligations.SampleWordsDecode : Prop :=
  decodeTableWord 40 0x0400FA0000 = some (.ps2Enq .line0 0xFA) ∧
  decodeTableWord 40 0x0900010000 = some (.engStep .line1 true false) ∧
  decodeTableWord 40 0x1480007FFF = some (.hidMabs 0x8000 0x7FFF) ∧
  decodeTableWord 40 0x16000500FD = some (.hidMrel 5 0xFD) ∧
  decodeTableWord 40 0x1E000A0000 = some (.hidSync false true false true false) ∧
  decodeTableWord 40 0x3E001B0000 = some (.reset 0x1B) ∧
  decodeTableWord 64 0x331104010000 = some (.frameInvalid #v[0, 0, 0x33, 0x11, 0x04, 0x01, 0, 0]) ∧
  decodeTableWord 64 0x3311040100002BA9 = some (.cmdKey 0x04 true) ∧
  decodeTableWord 64 0x3303030000009C41 = some (.cmdSetKbd 3) ∧
  decodeTableWord 16 0x0ED = some (.rxBadparity .line0 false 0xED) ∧
  decodeTableWord 16 0x0FE = some (.rxResend .line0) ∧
  decodeTableWord 16 0x007 = some (.rxData .line0 false 0x07) ∧
  decodeTableWord 16 0x7F4 = some (.ps2Frame .line0 true 0xFA)

/-- Rule R132: a reserved `op_sel` value names no operation; its word changes no state and emits nothing.
That a refused word is a next state with nothing changed is the model's reading (assumption log 11). -/
def Obligations.ReservedSelectorsChangeNothing : Prop :=
  ∀ p ∈ [((0x00 : BitVec 5), Instr.reserved00), (0x05, .reserved05), (0x06, .reserved06), (0x07, .reserved07),
      (0x15, .reserved15), (0x16, .reserved16), (0x17, .reserved17), (0x18, .reserved18), (0x19, .reserved19),
      (0x1A, .reserved1A), (0x1B, .reserved1B), (0x1C, .reserved1C), (0x1D, .reserved1D), (0x1E, .reserved1E)],
    (∀ w : OpWord, w.extractLsb' 33 5 = p.1 → decodeOpw w = p.2) ∧ ∀ s : State, exec p.2 s = .next s

/-! ### Framing and checksum -/

/-- Rules R150, R151, R152: the data bits and the parity bit together hold an odd number of ones; the encoder's frame,
bit by bit and as a number; the decoder gives the byte back, and every single flip of bits 1..9 is seen. -/
def Obligations.LineFramesRoundTripAndShowSingleFlips : Prop :=
  ∀ b : Byte,
    ((List.range 8).countP (fun i => b.getLsbD i) + (oddParity b).toNat) % 2 = 1 ∧
    (ps2Frame b).getLsbD 0 = false ∧ (∀ i < 8, (ps2Frame b).getLsbD (i + 1) = b.getLsbD i) ∧
    (ps2Frame b).getLsbD 9 = oddParity b ∧ (ps2Frame b).getLsbD 10 = true ∧
    (ps2Frame b).toNat = 0x400 + 0x200 * (oddParity b).toNat + 2 * b.toNat ∧
    ps2Unframe (ps2Frame b) = (b, true, true) ∧
    ∀ i, 1 ≤ i → i ≤ 9 → (ps2Unframe (ps2Frame b ^^^ (1#11 <<< i))).2.1 = false

/-- Rules R275, R276, R277: `seal` appends the checksum, more significant byte first; a sealed request validates; a
frame validates exactly when its magic byte and its checksum are right, whatever function the checksum is; and the
default function has the check values of vector VC1. -/
def Obligations.SealedFramesValidate : Prop :=
  (∀ c : Config,
    (∀ p0 p1 p2 p3 p4 p5 : Byte,
      sealFrame c p0 p1 p2 p3 p4 p5 =
        #v[p0, p1, p2, p3, p4, p5, (cksum16 c [p0, p1, p2, p3, p4, p5]).extractLsb' 8 8,
          (cksum16 c [p0, p1, p2, p3, p4, p5]).extractLsb' 0 8] ∧
      (p0 = c.reqMagic → validate c (sealFrame c p0 p1 p2 p3 p4 p5) = true)) ∧
    (∀ f : Frame, validate c f = true ↔
      f[0] = c.reqMagic ∧ f[6] ++ f[7] = cksum16 c [f[0], f[1], f[2], f[3], f[4], f[5]]) ∧
    (c.cksum = .crc16 → cksum16 c = crc16)) ∧
  crc16 [] = 0xFFFF ∧ crc16 [0x31, 0x32, 0x33, 0x34, 0x35, 0x36, 0x37, 0x38, 0x39] = 0x4B37 ∧
    crc16 [0x33, 0x01, 0x00, 0x00, 0x00, 0x00] = 0x1838 ∧ crc16 [0x34, 0x80, 0x09, 0x03, 0x00, 0x00] = 0x2DF6

/-! ### Steps -/

/-- Rules R10, R130: a step takes the next operation word off the port, decodes it and runs it; with an empty port
nothing happens (the model's choice, assumption log 1). -/
def Obligations.StepRunsTheDecodedOperation : Prop :=
  ∀ s : State,
    (s.port = [] → step s = .next s) ∧
    ∀ (w : OpWord) (rest : List OpWord) (i : Instr), s.port = w :: rest → decode s.cfg (.opw w) = .ok i →
      step s = exec i { s with port := rest, ret := none }

/-- Rules R270, R271: a byte before the eighth is stored and counted; the eighth completes the frame, resets the
index, and what follows is exactly what the decoded frame does. That a request frame is an instruction of its own is the
model's reading (assumption log 8). -/
def Obligations.LinkByteAccumulatesThenRunsTheFrame : Prop :=
  ∀ (s : State) (b : Byte),
    (∀ i j : Fin 8, s.fcv.fidx = i → i.val < 7 → j.val = i.val + 1 →
      exec (.linkByte b) s =
        .next { s with fcv := { fbuf := s.fcv.fbuf.set i b, fidx := j, silentMs := 0 } }) ∧
    (s.fcv.fidx = 7 →
      exec (.linkByte b) s =
        exec (decodeReq s.cfg (s.fcv.fbuf.set 7 b))
          { s with fcv := { fbuf := s.fcv.fbuf.set 7 b, fidx := 0, silentMs := 0 } } ∧
      ∃ t, exec (.linkByte b) s = .next t ∧ t.fcv = { fbuf := s.fcv.fbuf.set 7 b, fidx := 0, silentMs := 0 })

/-- Rules R183, R190, R124: after steps T1 to T4 a poll takes at most one received word, and what follows is exactly
what the decoded word does, on the state that the same poll would have left with nothing received. That a received word
is an instruction of its own is the model's reading (assumption log 8). -/
def Obligations.PollRunsTheReceivedWord : Prop :=
  ∀ (s : State) (d : Dev), (s.phy d).inited = true →
    let h := taskHead s.cfg d (s.phy d)
    h.phy.rxf = (s.phy d).rxf ∧
    (h.phy.rxf = [] → exec (.ps2Task d) s = .next (s.applyPhy d h)) ∧
    ∀ w rest, h.phy.rxf = w :: rest →
      exec (.ps2Task d) s =
        exec (decodeRxw s.cfg d w) ((s.applyPhy d h).setPhy d { h.phy with rxf := rest }) ∧
      ∃ t, exec (.ps2Task d) (s.setPhy d { s.phy d with rxf := [] }) = .next t ∧ (t.phy d).rxf = [] ∧
        exec (.ps2Task d) s = exec (decodeRxw s.cfg d w) (t.setPhy d { t.phy d with rxf := rest })

/-- Rule R156: when the updated idle count makes the bus idle, the engine takes the waiting frame, and what follows is
exactly what the line frame does, beside the step's `wire` event.
That a line frame is an instruction of its own is the model's reading (assumption log 8). -/
def Obligations.EngineRunsTheWaitingFrame : Prop :=
  ∀ (s : State) (d : Dev) (par : Bool) (data : Byte) (rest : List LineFrame),
    (s.phy d).inited = true → (s.phy d).eng.st = .idle → (s.phy d).txf = lineFrame par data :: rest →
    s.cfg.idleHold ≤ min ((s.phy d).eng.idleCnt + 1) s.cfg.idleHold →
    ∃ u, exec (.ps2Frame d par data)
          (s.setPhy d { s.phy d with
            txf := rest
            eng := { (s.phy d).eng with idleCnt := min ((s.phy d).eng.idleCnt + 1) s.cfg.idleHold } }) = .next u ∧
      exec (.engStep d true true) s = .next (u.emit (.wire d false true))

/-! ### The bit engine -/

/-- Rules R111, R156, R168: `PS2_FRAME`. The engine holds the frame, its first bit next; nothing else changes, but the
idle count in a machine that zeroes it on leaving `IDLE` (assumption log 24).
That this is the effect of the table's row, whatever `inited`, the engine's state and the idle count, is the model's
reading (assumption logs 8, 17). -/
def Obligations.LineFrameLoadsTheShifter : Prop :=
  ∀ (s : State) (d : Dev) (par : Bool) (data : Byte),
    ∃ f : LineFrame,
      exec (.ps2Frame d par data) s =
        .next (s.setPhy d { s.phy d with eng := { (s.phy d).eng with
          txSh := f, bitn := 0, st := .transmitting
          idleCnt := if s.cfg.reading.startZeroesIdle then 0 else (s.phy d).eng.idleCnt } }) ∧
      f.getLsbD 0 = false ∧ f.extractLsb' 1 8 = data ∧ f.getLsbD 9 = par ∧ f.getLsbD 10 = true

/-- Rules R155, R156, R157, R168: a step of an initialised engine in `IDLE`. When a frame starts the idle count is kept
(R156) or zeroed (R168), by the machine's reading, which is the model's field (assumption log 24). -/
def Obligations.EngineStepInIdle : Prop :=
  ∀ (s : State) (d : Dev) (p : Phy), s.phy d = p → p.inited = true → p.eng.st = .idle →
    (∀ hData, exec (.engStep d false hData) s =
      .next ((s.setPhy d { p with eng := { p.eng with idleCnt := 0 } }).emit (.wire d false hData))) ∧
    (∀ cnt, cnt = min (p.eng.idleCnt + 1) s.cfg.idleHold →
      (cnt < s.cfg.idleHold ∨ p.txf = [] →
        exec (.engStep d true true) s =
          .next ((s.setPhy d { p with eng := { p.eng with idleCnt := cnt } }).emit (.wire d false true))) ∧
      (∀ f rest, s.cfg.idleHold ≤ cnt → p.txf = f :: rest →
        exec (.engStep d true true) s =
          .next ((s.setPhy d { p with
              txf := rest
              eng := { p.eng with
                idleCnt := if s.cfg.reading.startZeroesIdle then 0 else cnt
                txSh := f, bitn := 0, st := .transmitting } }).emit
            (.wire d false true)))) ∧
    exec (.engStep d true false) s =
      .next ((s.setPhy d { p with
          eng := { p.eng with
            rxSh := 0, rxPar := false, rxStop := false, bitn := 1, idleCnt := 0, st := .receiving } }).emit
        (.wire d false false))

/-- Rules R158, R159, R160: a step of an initialised engine in `TRANSMITTING`. -/
def Obligations.EngineStepInTransmitting : Prop :=
  ∀ (s : State) (d : Dev) (p : Phy) (hData : Bool), s.phy d = p → p.inited = true → p.eng.st = .transmitting →
    (p.eng.bitn ≤ 9 → exec (.engStep d true hData) s =
      .next ((s.setPhy d { p with
          eng := { p.eng with dData := p.eng.txSh.getLsbD p.eng.bitn, bitn := p.eng.bitn + 1 } }).emit
        (.wire d true (p.eng.txSh.getLsbD p.eng.bitn && hData)))) ∧
    (p.eng.bitn = 10 → exec (.engStep d true hData) s =
      .next ((s.setPhy d { p with eng := { p.eng with dData := true, idleCnt := 0, st := .idle } }).emit
        (.wire d true (p.eng.txSh.getLsbD 10 && hData)))) ∧
    exec (.engStep d false hData) s =
      .next (((s.setPhy d { p with
          err := true, eng := { p.eng with dData := true, idleCnt := 0, st := .idle } }).emit
        (.wire d false hData)).raise (.txAbort d))

/-- Rules R161 to R166: a step of an initialised engine in `RECEIVING`. -/
def Obligations.EngineStepInReceiving : Prop :=
  ∀ (s : State) (d : Dev) (p : Phy) (hData : Bool), s.phy d = p → p.inited = true → p.eng.st = .receiving →
    (1 ≤ p.eng.bitn → p.eng.bitn ≤ 8 →
      ∃ sh : Byte, exec (.engStep d true hData) s =
          .next ((s.setPhy d { p with eng := { p.eng with rxSh := sh, bitn := p.eng.bitn + 1 } }).emit
            (.wire d true hData)) ∧
        ∀ i < 8, sh.getLsbD i = if i = p.eng.bitn - 1 then hData else p.eng.rxSh.getLsbD i) ∧
    (p.eng.bitn = 9 → exec (.engStep d true hData) s =
      .next ((s.setPhy d { p with eng := { p.eng with rxPar := hData, bitn := 10 } }).emit (.wire d true hData))) ∧
    (p.eng.bitn = 10 → exec (.engStep d true hData) s =
      .next ((s.setPhy d { p with eng := { p.eng with rxStop := hData, bitn := 11 } }).emit (.wire d true hData))) ∧
    (∀ e : Eng, e = { p.eng with dData := true, idleCnt := 0, st := .idle } → p.eng.bitn = 11 →
      (p.eng.rxStop = true → p.rxf.length < s.cfg.rxfDepth → exec (.engStep d true hData) s =
        .next ((s.setPhy d { p with rxf := p.rxf ++ [BitVec.ofBool p.eng.rxPar ++ p.eng.rxSh], eng := e }).emit
          (.wire d true false))) ∧
      (p.eng.rxStop = true → s.cfg.rxfDepth ≤ p.rxf.length → exec (.engStep d true hData) s =
        .next (((s.setPhy d { p with eng := e }).emit (.wire d true false)).raise (.rxOverflow d))) ∧
      (p.eng.rxStop = false → exec (.engStep d true hData) s =
        .next (((s.setPhy d { p with rxFerr := true, eng := e }).emit (.wire d true false)).raise
          (.rxFrameError d)))) ∧
    exec (.engStep d false hData) s =
      .next ((s.setPhy d { p with eng := { p.eng with dData := true, idleCnt := 0, st := .idle } }).emit
        (.wire d false hData))

/-- Rules R154, R33: in the ranges the spec gives the engine's registers a step always completes and emits exactly one
`wire` event, on its own line; outside them it stops by name (assumption log 7). -/
def Obligations.EngineStepEmitsOneWireEvent : Prop :=
  ∀ (s : State) (d : Dev) (hClk hData : Bool), (s.phy d).inited = true →
    ((s.phy d).eng.Inv s.cfg → ∃ t pulse data, exec (.engStep d hClk hData) s = .next t ∧
      t.trace = s.trace ++ [.wire d pulse data]) ∧
    (hClk = true → ((s.phy d).eng.st = .transmitting ∧ 11 ≤ (s.phy d).eng.bitn) ∨
        ((s.phy d).eng.st = .receiving ∧ ((s.phy d).eng.bitn = 0 ∨ 12 ≤ (s.phy d).eng.bitn)) →
      exec (.engStep d hClk hData) s = .fault .engineSlotOutOfRange)

/-- Rules R169, R170: from an idle bus with a frame waiting, twelve steps with both wires released (`TXRUN`) put the
frame's eleven bits on the line, bit 0 first, and end in `IDLE` with the idle count at 0 and the frame gone. -/
def Obligations.TransmissionShiftsOutTheFrame : Prop :=
  ∀ (s : State) (d : Dev) (f : LineFrame) (rest : List LineFrame),
    (s.phy d).inited = true → (s.phy d).eng.st = .idle → (s.phy d).eng.idleCnt = s.cfg.idleHold →
    (s.phy d).txf = f :: rest →
    ∃ t, runInstrs (List.replicate 12 (.engStep d true true)) s = .next t ∧
      t.trace = s.trace ++ .wire d false true ::
        (List.range 11).map (fun i => Event.wire d true (f.getLsbD i)) ∧
      (t.phy d).eng.st = .idle ∧ (t.phy d).eng.idleCnt = 0 ∧ (t.phy d).eng.dData = true ∧
      (t.phy d).txf = rest ∧ (t.phy d).err = (s.phy d).err ∧ (t.phy d).rxf = (s.phy d).rxf ∧ t.raised = s.raised

/-- Rules R114, R157, R161 to R164, R169: from `IDLE`, the twelve slots of a byte sent by the host (`HOSTSEND`) put
exactly that byte and its parity bit into the receive FIFO, least significant bit first on the line, whatever the
parity; the line is acknowledged in the last slot. -/
def Obligations.ReceptionDeliversTheByte : Prop :=
  ∀ (s : State) (d : Dev) (data : Byte) (par : Bool),
    (s.phy d).inited = true → (s.phy d).eng.st = .idle → (s.phy d).rxf.length < s.cfg.rxfDepth →
    ∃ t, runInstrs ((hostSendBits data par).map (fun b => Instr.engStep d true b)) s = .next t ∧
      (t.phy d).rxf = (s.phy d).rxf ++ [BitVec.ofBool par ++ data] ∧
      t.trace = s.trace ++ .wire d false false ::
        ((hostSendBits data par).tail.dropLast.map (fun b => Event.wire d true b) ++ [.wire d true false]) ∧
      (t.phy d).eng.st = .idle ∧ (t.phy d).eng.idleCnt = 0 ∧ (t.phy d).eng.dData = true ∧
      (t.phy d).txf = (s.phy d).txf ∧ (t.phy d).rxFerr = (s.phy d).rxFerr ∧ t.raised = s.raised

/-! ### The PS/2 task -/

/-- Rules R180, R181: `PS2_INIT` leaves every register of its instance at its stated value and nothing else changed;
before it, the other three operations do nothing and `PS2_ENQ` returns `false`. -/
def Obligations.InitClearsAndOpensTheInstance : Prop :=
  ∀ (s : State) (d : Dev),
    exec (.ps2Init d) s =
      .next (s.setPhy d
        { inited := true, byteq := [], packq := [], sent := 0, lastTx := 0, lastRx := 0, txf := [], rxf := [],
          err := false, rxFerr := false,
          eng := { st := .idle, bitn := 0, txSh := 0, rxSh := 0, rxPar := false, rxStop := false, idleCnt := 0,
                   dClk := true, dData := true } }) ∧
    ((s.phy d).inited = false →
      exec (.ps2Task d) s = .next s ∧ (∀ hClk hData, exec (.engStep d hClk hData) s = .next s) ∧
      ∀ b, exec (.ps2Enq d b) s = .next { s with ret := some false })

/-- Rules R84, R182, R330: `PS2_ENQ` appends the byte, or drops it when the queue is full, and returns which. -/
def Obligations.EnqueueAppendsOrDrops : Prop :=
  ∀ (s : State) (d : Dev) (b : Byte), (s.phy d).inited = true →
    ((s.phy d).byteq.length < s.cfg.byteqDepth →
      exec (.ps2Enq d b) s =
        .next { s.setPhy d { s.phy d with byteq := (s.phy d).byteq ++ [b] } with ret := some true }) ∧
    (s.cfg.byteqDepth ≤ (s.phy d).byteq.length →
      exec (.ps2Enq d b) s = .next { s with ret := some false, raised := s.raised ++ [.byteQueueFull d] })

/-- Rules R184, R331, with R185 to R188: a poll with bytes waiting makes one packet of up to `PACK_MAX` of them at the
tail of the packet queue, or loses it whole when that queue is full. In the same poll, on the queue that packet is
already in, the gate being open, it retires the finished head packet or hands over its next byte; the gate being shut it
does no more; and after a transmit error it rewinds. -/
def Obligations.PollPacketisesWaitingBytes : Prop :=
  ∀ (s : State) (d : Dev) (p : Phy), s.phy d = p → p.inited = true → p.byteq ≠ [] → p.rxFerr = false → p.rxf = [] →
    ∀ (q : List Packet) (u : State),
      (p.packq.length < s.cfg.packqDepth ∧ q = p.packq ++ [{ bytes := p.byteq.take s.cfg.packMax }] ∧ u = s) ∨
        (s.cfg.packqDepth ≤ p.packq.length ∧ q = p.packq ∧ u = s.raise (.packetQueueFull d)) →
      (p.err = false → q = [] ∨ p.txf ≠ [] ∨ p.eng.st ≠ .idle ∨ p.eng.idleCnt < s.cfg.idleHold →
        exec (.ps2Task d) s = .next (u.setPhy d { p with byteq := p.byteq.drop s.cfg.packMax, packq := q })) ∧
      (p.err = false → p.txf = [] → p.eng.st = .idle → s.cfg.idleHold ≤ p.eng.idleCnt → 1 ≤ s.cfg.txfDepth →
        ∀ pk rest, q = pk :: rest →
          (p.sent = pk.bytes.length →
            exec (.ps2Task d) s =
              .next (u.setPhy d { p with byteq := p.byteq.drop s.cfg.packMax, packq := rest, sent := 0 })) ∧
          ∀ h : p.sent < pk.bytes.length,
            exec (.ps2Task d) s =
              .next (u.setPhy d { p with
                byteq := p.byteq.drop s.cfg.packMax, packq := q
                sent := p.sent + 1, lastTx := pk.bytes[p.sent], txf := [ps2Frame pk.bytes[p.sent]] })) ∧
      (p.err = true →
        exec (.ps2Task d) s =
          .next (u.setPhy d { p with
            byteq := p.byteq.drop s.cfg.packMax, packq := q, sent := 0, txf := [], err := false }))

/-- Rules R185 to R188: with nothing to packetise and nothing received, a poll retires the finished head packet or hands
over exactly one framed byte when the gate is open, does nothing when it is shut, and after a transmit error rewinds
the head packet, drains the transmit FIFO and clears the error, the packet kept. -/
def Obligations.PollRetiresSendsOrRewinds : Prop :=
  ∀ (s : State) (d : Dev) (p : Phy), s.phy d = p → p.inited = true → p.byteq = [] → p.rxFerr = false → p.rxf = [] →
    (p.err = false → p.txf = [] → p.eng.st = .idle → s.cfg.idleHold ≤ p.eng.idleCnt → 1 ≤ s.cfg.txfDepth →
      ∀ pk rest, p.packq = pk :: rest →
        (p.sent = pk.bytes.length → exec (.ps2Task d) s = .next (s.setPhy d { p with sent := 0, packq := rest })) ∧
        ∀ h : p.sent < pk.bytes.length,
          exec (.ps2Task d) s =
            .next (s.setPhy d { p with
              sent := p.sent + 1, lastTx := pk.bytes[p.sent], txf := [ps2Frame pk.bytes[p.sent]] })) ∧
    (p.err = false → p.packq = [] ∨ p.txf ≠ [] ∨ p.eng.st ≠ .idle ∨ p.eng.idleCnt < s.cfg.idleHold →
      exec (.ps2Task d) s = .next s) ∧
    (p.err = true → exec (.ps2Task d) s = .next (s.setPhy d { p with sent := 0, txf := [], err := false }))

/-- Rules R189, R332: after a receive frame error, with nothing received since, a poll does what it does without the
error and then pushes one NAK past the gate, or loses it when the transmit FIFO is full, and clears the flag. Where the
poll has nothing else to do, `sent`, `last_tx`, `last_rx` and the queues keep their values. -/
def Obligations.PollAnswersAFrameErrorWithANak : Prop :=
  ∀ (s : State) (d : Dev) (p : Phy), s.phy d = p → p.inited = true → p.rxf = [] → p.rxFerr = true →
    (p.byteq = [] → p.err = false →
      p.packq = [] ∨ p.txf ≠ [] ∨ p.eng.st ≠ .idle ∨ p.eng.idleCnt < s.cfg.idleHold →
      (p.txf.length < s.cfg.txfDepth →
        exec (.ps2Task d) s =
          .next (s.setPhy d { p with txf := p.txf ++ [ps2Frame s.cfg.resendByte], rxFerr := false })) ∧
      (s.cfg.txfDepth ≤ p.txf.length →
        exec (.ps2Task d) s = .next ((s.setPhy d { p with rxFerr := false }).raise (.txFifoFull d)))) ∧
    ∃ t, exec (.ps2Task d) (s.setPhy d { p with rxFerr := false }) = .next t ∧
      ((t.phy d).txf.length < s.cfg.txfDepth →
        exec (.ps2Task d) s =
          .next (t.setPhy d { t.phy d with txf := (t.phy d).txf ++ [ps2Frame s.cfg.resendByte] })) ∧
      (s.cfg.txfDepth ≤ (t.phy d).txf.length → exec (.ps2Task d) s = .next (t.raise (.txFifoFull d)))

/-- Rules R191, R192, R193: what each class of received word does. A bad parity is answered by a NAK and changes
nothing else; the sentinel replays the last packet byte; any other byte cancels the outgoing queues and is delivered
with its predecessor.
That the classes are instructions that do not look at `inited`, and the order of the raised events, are the model's
reading (assumption logs 8, 10, 17). -/
def Obligations.ReceivedWordClassesAct : Prop :=
  ∀ (s : State) (d : Dev) (p : Phy) (par : Bool) (data : Byte), s.phy d = p →
    (p.txf.length < s.cfg.txfDepth →
      exec (.rxBadparity d par data) s =
        .next ((s.setPhy d { p with txf := p.txf ++ [ps2Frame s.cfg.resendByte] }).raise (.rxParityError d)) ∧
      exec (.rxResend d) s =
        .next ((s.setPhy d { p with txf := p.txf ++ [ps2Frame p.lastTx] }).raise (.resendRequest d))) ∧
    (s.cfg.txfDepth ≤ p.txf.length →
      exec (.rxBadparity d par data) s = .next ((s.raise (.txFifoFull d)).raise (.rxParityError d)) ∧
      exec (.rxResend d) s = .next ((s.raise (.resendRequest d)).raise (.txFifoFull d))) ∧
    exec (.rxData d par data) s =
      .next ((s.setPhy d { p with byteq := [], packq := [], sent := 0, lastRx := data }).emit
        (.ps2Rx d data p.lastRx))

/-- Rules R190, R193, R194: every poll completes; it takes at most one received word off the FIFO, and either emits
nothing and keeps `last_rx`, or delivers exactly one byte, paired with the previous `last_rx`, and remembers it. -/
def Obligations.PollDeliversAtMostOneByte : Prop :=
  ∀ (s : State) (d : Dev), ∃ t, exec (.ps2Task d) s = .next t ∧
    ((s.phy d).inited = true → (t.phy d).rxf = (s.phy d).rxf.tail) ∧
    ((t.trace = s.trace ∧ (t.phy d).lastRx = (s.phy d).lastRx) ∨
      ∃ cur, t.trace = s.trace ++ [.ps2Rx d cur (s.phy d).lastRx] ∧ (t.phy d).lastRx = cur ∧
        cur ≠ s.cfg.resendByte ∧ (s.phy d).rxf.head? = some (BitVec.ofBool (oddParity cur) ++ cur) ∧
        (t.phy d).byteq = [] ∧ (t.phy d).packq = [] ∧ (t.phy d).sent = 0)

/-- Rules R98, R194: over every run without `PS2_INIT(d)` and `RESET`, each byte delivered from line `d` is paired with
the byte delivered before it. -/
def Obligations.DeliveredBytesArePairedWithTheirPredecessor : Prop :=
  ∀ (d : Dev) (is : List Instr) (s t : State), (∀ i ∈ is, i ≠ .ps2Init d ∧ ∀ m, i ≠ .reset m) →
    runInstrs is s = .next t →
    ∃ es, t.trace = s.trace ++ es ∧ PairChain d (s.phy d).lastRx es (t.phy d).lastRx

/-! ### The keyboard -/

/-- Rules R218, R219: outside the USB keyboard mode, and for code 0, `HID_KEY` changes nothing. -/
def Obligations.KeyIsDroppedOutsideUsbModeAndForCodeZero : Prop :=
  ∀ (s : State) (code : Byte) (pressed : Bool),
    s.out.kbdMode ≠ .usb ∨ code = 0 → exec (.hidKey code pressed) s = .next s

/-- Rule R211: a modifier key writes its one bit of the modifier byte and takes no slot; `dirty` is set only on a
change. -/
def Obligations.ModifierKeyWritesItsBit : Prop :=
  ∀ (s : State) (i : Nat) (pressed : Bool), s.out.kbdMode = .usb → i < 8 →
    ∃ m : Byte,
      exec (.hidKey (0xE0#8 + BitVec.ofNat 8 i) pressed) s =
        .next { s with kbd := { s.kbd with mod := m, dirty := s.kbd.dirty || m != s.kbd.mod } } ∧
      ∀ k < 8, m.getLsbD k = if k = i then pressed else s.kbd.mod.getLsbD k

/-- Rules R212 to R215: the press of a regular code: nothing when it is held; else the lowest free slot; else the
overflow policy. -/
def Obligations.RegularKeyPressAllocatesASlot : Prop :=
  ∀ (s : State) (code : Byte), s.out.kbdMode = .usb → code ≠ 0 → (code < 0xE0#8 ∨ 0xE7#8 < code) →
    ((∃ j : Fin 6, s.kbd.keys[j] = code) → exec (.hidKey code true) s = .next s) ∧
    ((∀ j : Fin 6, s.kbd.keys[j] ≠ code) →
      (∀ j : Fin 6, s.kbd.keys[j] = 0 → (∀ i : Fin 6, i < j → s.kbd.keys[i] ≠ 0) →
        exec (.hidKey code true) s =
          .next { s with kbd := { s.kbd with keys := s.kbd.keys.set j code, dirty := true } }) ∧
      ((∀ j : Fin 6, s.kbd.keys[j] ≠ 0) →
        (s.cfg.keyPolicy = .overwriteSlot0 →
          exec (.hidKey code true) s =
            .next { s with kbd := { s.kbd with keys := s.kbd.keys.set 0 code, dirty := true } }) ∧
        (s.cfg.keyPolicy = .dropNew → exec (.hidKey code true) s = .next s)))

/-- Rule R216: the release of a regular code frees the slot that holds it; the others keep their positions; `dirty` is
set exactly when a slot changed. -/
def Obligations.RegularKeyReleaseFreesItsSlot : Prop :=
  ∀ (s : State) (code : Byte), s.out.kbdMode = .usb → code ≠ 0 → (code < 0xE0#8 ∨ 0xE7#8 < code) →
    ∃ t, exec (.hidKey code false) s = .next t ∧
      (∀ j : Fin 6, t.memRead (.key j) = if s.kbd.keys[j] = code then 0 else s.memRead (.key j)) ∧
      (t.kbd.dirty = true ↔ s.kbd.dirty = true ∨ ∃ j : Fin 6, s.kbd.keys[j] = code) ∧
      { t with kbd := { t.kbd with keys := s.kbd.keys, dirty := s.kbd.dirty } } = s

/-! ### The mouse -/

/-- Rules R230, R231, R240: `HID_MBTN` in a USB mouse mode gives each selected button of bits 0..4 its new state and
keeps the rest; in any other mode it is dropped. -/
def Obligations.MouseButtonsSelectAndState : Prop :=
  ∀ (s : State) (sel st : Byte),
    (usbMouse s.out.mouseMode = true → ∃ b : Byte,
      exec (.hidMbtn sel st) s =
        .next { s with mouse := { s.mouse with buttons := b, dirty := s.mouse.dirty || b != s.mouse.buttons } } ∧
      ∀ k < 8, b.getLsbD k = if k ≤ 4 ∧ sel.getLsbD k = true then st.getLsbD k else s.mouse.buttons.getLsbD k) ∧
    (s.out.mouseMode = .none ∨ s.out.mouseMode = .ps2 → exec (.hidMbtn sel st) s = .next s)

/-- Rules R230, R232 to R235: `HID_MABS`, `HID_MREL` and `HID_MWHEEL` store their operands in the modes of the table of
rule R235, set `dirty` only on a change, ignore the horizontal wheel, and are dropped in every other mode. -/
def Obligations.MouseMotionStoresItsOperandsByMode : Prop :=
  ∀ s : State,
    (∀ x y : Half,
      (s.out.mouseMode = .usbAbs ∨ s.out.mouseMode = .usbLegacyAbs →
        exec (.hidMabs x y) s =
          .next { s with mouse := { s.mouse with
            ax := x, ay := y, dirty := s.mouse.dirty || (x != s.mouse.ax || y != s.mouse.ay) } }) ∧
      (s.out.mouseMode = .none ∨ s.out.mouseMode = .ps2 ∨ s.out.mouseMode = .usbRel →
        exec (.hidMabs x y) s = .next s)) ∧
    (∀ dx dy : Byte,
      (s.out.mouseMode = .usbRel →
        exec (.hidMrel dx dy) s =
          .next { s with mouse := { s.mouse with
            dx := dx, dy := dy, dirty := s.mouse.dirty || (dx != s.mouse.dx || dy != s.mouse.dy) } }) ∧
      (s.out.mouseMode ≠ .usbRel → exec (.hidMrel dx dy) s = .next s)) ∧
    ∀ h v : Byte,
      (s.out.mouseMode = .usbAbs ∨ s.out.mouseMode = .usbRel ∨ s.out.mouseMode = .usbLegacyAbs →
        exec (.hidMwheel h v) s =
          .next { s with mouse := { s.mouse with wheel := v, dirty := s.mouse.dirty || v != s.mouse.wheel } }) ∧
      (s.out.mouseMode = .none ∨ s.out.mouseMode = .ps2 → exec (.hidMwheel h v) s = .next s)

/-- Rule R237: the scaled position is within 0..`ABS_MAX`; under the rule's `ABS_MAX` of 32767 it is `(v + 32768) >> 1`
on integers, and monotone. Under another `ABS_MAX` its value is free, held to the range (the model's choice, assumption
log 16), and nothing more is said. -/
def Obligations.ScaledPositionIsInRangeAndMonotone : Prop :=
  ∀ c : Config,
    (∀ v : Half, (scaleAbs c v).toNat ≤ c.absMax.toNat) ∧
    (c.absMax = 32767 →
      (∀ v : Half, ((scaleAbs c v).toNat : Int) = (v.toInt + 32768) / 2) ∧
      ∀ v w : Half, v.toInt ≤ w.toInt → (scaleAbs c v).toNat ≤ (scaleAbs c w).toNat)

/-! ### Online detection, sending, clearing, output selection -/

/-- Rules R250, R251, R252: one 1-ms sample of the two interfaces, each on its own; the report state is not touched. -/
def Obligations.TickSamplesBothInterfaces : Prop :=
  ∀ (s : State) (kr mr : Bool), ∃ t, exec (.hidTickMs kr mr) s = .next t ∧
    { t with kbd := { t.kbd with toIface := s.kbd.toIface }
             mouse := { t.mouse with toIface := s.mouse.toIface } } = s ∧
    ∀ q ∈ [(kr, s.kbd.toIface, t.kbd.toIface), (mr, s.mouse.toIface, t.mouse.toIface)],
      match q with
      | (ready, x, y) =>
        y.dirty = x.dirty ∧
        (ready = true → y.online = true ∧ y.unreadyMs = 0 ∧ (y.force = true ↔ x.force = true ∨ x.online = false)) ∧
        (ready = false → y.force = x.force ∧
          (x.online = false → y = x) ∧
          (x.online = true → x.unreadyMs + 1 < s.cfg.hystMs →
            y.online = true ∧ y.unreadyMs = x.unreadyMs + 1) ∧
          (x.online = true → s.cfg.hystMs ≤ x.unreadyMs + 1 → y.online = false ∧ y.unreadyMs = 0))

/-- Rules R252, R262: an online interface, keyboard or mouse, goes offline at exactly the `HYST_MS`-th consecutive
not-ready sample, whatever the samples of the other one (`os`, one for each tick). -/
def Obligations.OfflineAfterExactlyHystSamples : Prop :=
  ∀ (s : State) (n : Nat) (os : List Bool), os.length = n → n ≤ s.cfg.hystMs → 1 ≤ s.cfg.hystMs →
    (s.kbd.online = true → s.kbd.unreadyMs = 0 →
      ∃ t, runInstrs (os.map (fun o => .hidTickMs false o)) s = .next t ∧
        (t.kbd.online = true ↔ n < s.cfg.hystMs) ∧ t.kbd.unreadyMs = (if n < s.cfg.hystMs then n else 0) ∧
        { t.kbd with online := s.kbd.online, unreadyMs := s.kbd.unreadyMs } = s.kbd) ∧
    (s.mouse.online = true → s.mouse.unreadyMs = 0 →
      ∃ t, runInstrs (os.map (fun o => .hidTickMs o false)) s = .next t ∧
        (t.mouse.online = true ↔ n < s.cfg.hystMs) ∧ t.mouse.unreadyMs = (if n < s.cfg.hystMs then n else 0) ∧
        { t.mouse with online := s.mouse.online, unreadyMs := s.mouse.unreadyMs } = s.mouse)

/-- Rules R220, R253, R333: the keyboard part of `HID_SYNC` with nothing to send on the mouse: the current report goes
out when something is pending and the interface ready, and the flags are cleared only after a successful send.
That one `UsbNotReady` is logged is the model's choice (assumption log 10). -/
def Obligations.SyncSendsTheKeyboardReport : Prop :=
  ∀ (s : State) (kr mr ko mo : Bool), usbMouse s.out.mouseMode = false ∨ s.mouse.dirty = false ∧ s.mouse.force = false →
    (s.out.kbdMode ≠ .usb ∨ s.kbd.dirty = false ∧ s.kbd.force = false →
      exec (.hidSync false kr mr ko mo) s = .next s) ∧
    (s.out.kbdMode = .usb → s.kbd.dirty = true ∨ s.kbd.force = true →
      (∀ e : Event, e = .usbSend .kbd [s.kbd.mod, 0, s.kbd.keys[0], s.kbd.keys[1], s.kbd.keys[2], s.kbd.keys[3],
          s.kbd.keys[4], s.kbd.keys[5]] →
        exec (.hidSync false true mr true mo) s =
          .next { s with kbd := { s.kbd with dirty := false, force := false }, trace := s.trace ++ [e] } ∧
        exec (.hidSync false true mr false mo) s =
          .next { s with trace := s.trace ++ [e], raised := s.raised ++ [.usbNotReady] }) ∧
      exec (.hidSync false false mr ko mo) s = .next { s with raised := s.raised ++ [.usbNotReady] })

/-- Rules R238, R254: the mouse part of `HID_SYNC` with nothing to send on the keyboard: the report of the active
submode, the pan byte 0; the pending deltas are zeroed only after a successful send, buttons and position persist.
That one `UsbNotReady` is logged is the model's choice (assumption log 10). -/
def Obligations.SyncSendsTheMouseReport : Prop :=
  ∀ (s : State) (kr mr ko mo : Bool), s.out.kbdMode ≠ .usb ∨ s.kbd.dirty = false ∧ s.kbd.force = false →
    s.mouse.dirty = true ∨ s.mouse.force = true →
    (∀ bytes : List Byte,
      ((s.out.mouseMode = .usbAbs ∨ s.out.mouseMode = .usbLegacyAbs) ∧
        bytes = [s.mouse.buttons,
          (scaleAbs s.cfg s.mouse.ax).extractLsb' 0 8, (scaleAbs s.cfg s.mouse.ax).extractLsb' 8 8,
          (scaleAbs s.cfg s.mouse.ay).extractLsb' 0 8, (scaleAbs s.cfg s.mouse.ay).extractLsb' 8 8, s.mouse.wheel, 0]) ∨
        (s.out.mouseMode = .usbRel ∧ bytes = [s.mouse.buttons, s.mouse.dx, s.mouse.dy, s.mouse.wheel, 0]) →
      exec (.hidSync false kr true ko true) s =
        .next { s with
          mouse := { s.mouse with dirty := false, force := false, dx := 0, dy := 0, wheel := 0 }
          trace := s.trace ++ [.usbSend .mouse bytes] } ∧
      exec (.hidSync false kr true ko false) s =
        .next { s with trace := s.trace ++ [.usbSend .mouse bytes], raised := s.raised ++ [.usbNotReady] } ∧
      exec (.hidSync false kr false ko mo) s = .next { s with raised := s.raised ++ [.usbNotReady] }) ∧
    (s.out.mouseMode = .none ∨ s.out.mouseMode = .ps2 → exec (.hidSync false kr mr ko mo) s = .next s)

/-- Rules R253, R254, R333: with something to send on both interfaces the keyboard part comes first; each interface
sends its report when it is ready, and its flags are cleared only after its own successful send.
That `UsbNotReady` is logged for each interface is the model's choice (assumption log 10). -/
def Obligations.SyncSendsTheKeyboardBeforeTheMouse : Prop :=
  ∀ (s : State) (kr mr ko mo : Bool), s.out.kbdMode = .usb → s.kbd.dirty = true ∨ s.kbd.force = true →
    s.mouse.dirty = true ∨ s.mouse.force = true →
    ∀ (k m : Event) (bytes : List Byte),
      (s.out.mouseMode = .usbAbs ∨ s.out.mouseMode = .usbLegacyAbs) ∧
          bytes = [s.mouse.buttons,
            (scaleAbs s.cfg s.mouse.ax).extractLsb' 0 8, (scaleAbs s.cfg s.mouse.ax).extractLsb' 8 8,
            (scaleAbs s.cfg s.mouse.ay).extractLsb' 0 8, (scaleAbs s.cfg s.mouse.ay).extractLsb' 8 8,
            s.mouse.wheel, 0] ∨
        s.out.mouseMode = .usbRel ∧ bytes = [s.mouse.buttons, s.mouse.dx, s.mouse.dy, s.mouse.wheel, 0] →
      k = .usbSend .kbd [s.kbd.mod, 0, s.kbd.keys[0], s.kbd.keys[1], s.kbd.keys[2], s.kbd.keys[3], s.kbd.keys[4],
        s.kbd.keys[5]] →
      m = .usbSend .mouse bytes →
      exec (.hidSync false kr mr ko mo) s =
        .next { s with
          kbd := if kr && ko then { s.kbd with dirty := false, force := false } else s.kbd
          mouse := if mr && mo then { s.mouse with dirty := false, force := false, dx := 0, dy := 0, wheel := 0 }
            else s.mouse
          trace := s.trace ++ (if kr then [k] else []) ++ (if mr then [m] else [])
          raised := s.raised ++ (if kr && ko then [] else [.usbNotReady]) ++
            (if mr && mo then [] else [.usbNotReady]) }

/-- Rules R255, R334: on a suspended bus nothing is sent and no flag changes; exactly one wakeup request goes out when
an interface has something to send, and none otherwise. -/
def Obligations.SuspendedSyncRequestsOneWakeup : Prop :=
  ∀ (s : State) (kr mr ko mo : Bool), ∃ t, exec (.hidSync true kr mr ko mo) s = .next t ∧
    { t with trace := s.trace, raised := s.raised } = s ∧
    ((s.out.kbdMode = .usb ∧ (s.kbd.dirty = true ∨ s.kbd.force = true)) ∨
        (usbMouse s.out.mouseMode = true ∧ (s.mouse.dirty = true ∨ s.mouse.force = true)) →
      t.trace = s.trace ++ [.usbRemoteWakeup]) ∧
    ((s.out.kbdMode ≠ .usb ∨ (s.kbd.dirty = false ∧ s.kbd.force = false)) ∧
        (usbMouse s.out.mouseMode = false ∨ (s.mouse.dirty = false ∧ s.mouse.force = false)) → t = s)

/-- Rule R256: `HID_CLEAR` zeroes the report state of both interfaces and sets both `dirty` flags, in every mode, and
touches nothing else. -/
def Obligations.ClearReleasesEverything : Prop :=
  ∀ s : State, ∃ t, exec .hidClear s = .next t ∧
    (∀ j : Fin 6, t.memRead (.key j) = 0) ∧ t.kbd.mod = 0 ∧ t.kbd.dirty = true ∧
    t.mouse = { s.mouse with buttons := 0, ax := 0, ay := 0, dx := 0, dy := 0, wheel := 0, dirty := true } ∧
    { t with kbd := { t.kbd with mod := s.kbd.mod, keys := s.kbd.keys, dirty := s.kbd.dirty }
             mouse := s.mouse } = s

/-- Rules R257, R258, R259, R335: an output switch to a defined and available mode clears the report state, emits
`ps2_clear`, flips the mode and returns `true`; any other code changes nothing and returns `false`. That
`ModeUnavailable` is logged then is the model's reading (assumption log 10). -/
def Obligations.OutputSwitchClearsThenFlips : Prop :=
  ∀ (s : State) (mode : ModeCode), ∃ c, exec .hidClear s = .next c ∧
    (∀ m, kbdCode s.cfg m = mode → decodeKbd s.cfg mode = some m → kbdAvailable s.cfg m = true →
      exec (.outSetKbd mode) s =
        .next { c with
          out := { s.out with kbdMode := m }, trace := s.trace ++ [.ps2Clear], ret := some true }) ∧
    (decodeKbd s.cfg mode = none ∨ (∃ m, decodeKbd s.cfg mode = some m ∧ kbdAvailable s.cfg m = false) →
      exec (.outSetKbd mode) s = .next { s with ret := some false, raised := s.raised ++ [.modeUnavailable] }) ∧
    (∀ m, mouseCode s.cfg m = mode → decodeMouse s.cfg mode = some m → mouseAvailable s.cfg m = true →
      exec (.outSetMouse mode) s =
        .next { c with
          out := { s.out with mouseMode := m }, trace := s.trace ++ [.ps2Clear], ret := some true }) ∧
    (decodeMouse s.cfg mode = none ∨ (∃ m, decodeMouse s.cfg mode = some m ∧ mouseAvailable s.cfg m = false) →
      exec (.outSetMouse mode) s = .next { s with ret := some false, raised := s.raised ++ [.modeUnavailable] })

/-- Rules R126, R127: under distinct codes the mode tables decode each mode's code to that mode, and every other code
to none; which modes are available follows the capability bits; the mask byte of two modes is the `active` byte of R126
under its layout, and a boot mask that names two available modes boots them (R308, R361).
That the codes and the masks are parameters is the model's reading (assumption log 12). -/
def Obligations.ModeTablesDecodeTheirCodes : Prop :=
  ∀ c : Config, c.modes.Wf →
    (∀ m, decodeKbd c (kbdCode c m) = some m) ∧ (∀ m, decodeMouse c (mouseCode c m) = some m) ∧
    (∀ code m, decodeKbd c code = some m → kbdCode c m = code) ∧
    (∀ code m, decodeMouse c code = some m → mouseCode c m = code) ∧
    (c.modes = Config.defaultModes → (∀ code ∈ [2, 4, 5, 6, 7], decodeKbd c code = none) ∧
      ∀ code ∈ [5, 6, 7], decodeMouse c code = none) ∧
    (c.hasUsb = 0x01 → c.hasPs2 = 0x02 → c.hasUsbLegacy = 0x04 →
      kbdAvailable c .none = true ∧ mouseAvailable c .none = true ∧
      kbdAvailable c .usb = c.avail.getLsbD 0 ∧ mouseAvailable c .usbAbs = c.avail.getLsbD 0 ∧
      mouseAvailable c .usbRel = c.avail.getLsbD 0 ∧ kbdAvailable c .ps2 = c.avail.getLsbD 1 ∧
      mouseAvailable c .ps2 = c.avail.getLsbD 1 ∧ mouseAvailable c .usbLegacyAbs = c.avail.getLsbD 2) ∧
    ∀ k m, (c.layout = Config.defaultLayout → modeMask c k m = 0#2 ++ mouseCode c m ++ kbdCode c k) ∧
      (c.layout.Wf → (kbdAvailable c k = true → bootKbd c (modeMask c k m) = k) ∧
        (mouseAvailable c m = true → bootMouse c (modeMask c k m) = m))

/-! ### The link -/

/-- Rules R272, R273, R307, R323: a tick counts silence only while a partial frame is held; at the threshold the frame
is discarded, the report state cleared, and one timeout response emitted. Rules R274, R324: a bus error discards the
partial frame and re-arms the receiver, with no response. That `LINK_RESYNC` logs `LinkBusError` is the model's reading
(assumption log 10). -/
def Obligations.SilenceOrABusErrorDiscardsAPartialFrame : Prop :=
  ∀ s : State,
    exec .linkResync s =
      .next { s with fcv := { s.fcv with fidx := 0, silentMs := 0 }, raised := s.raised ++ [.linkBusError] } ∧
    (s.fcv.fidx = 0 → exec .linkTickMs s = .next s) ∧
    (s.fcv.fidx ≠ 0 → s.fcv.silentMs + 1 < s.cfg.linkTimeoutMs →
      exec .linkTickMs s = .next { s with fcv := { s.fcv with silentMs := s.fcv.silentMs + 1 } }) ∧
    (s.fcv.fidx ≠ 0 → s.cfg.linkTimeoutMs ≤ s.fcv.silentMs + 1 →
      ∃ c, exec .hidClear s = .next c ∧
        exec .linkTickMs s =
          .next { c with
            fcv := { s.fcv with fidx := 0, silentMs := 0 }
            cdr := { s.cdr with prevStatus := s.cfg.st.timeout }
            raised := s.raised ++ [.linkTimeout]
            trace := s.trace ++ [.respOut (sealFrame s.cfg s.cfg.respMagic s.cfg.st.timeout
              ((mouseCode s.cfg s.out.mouseMode).setWidth 8 <<< s.cfg.layout.mouseLo |||
                (kbdCode s.cfg s.out.kbdMode).setWidth 8 <<< s.cfg.layout.kbdLo) s.cfg.avail 0 0)] })

/-- Rules R278, R291, R321: a frame with a wrong magic byte or checksum changes nothing but the previous status, and
is answered with the checksum-error status. -/
def Obligations.InvalidFrameChangesNothingButTheStatus : Prop :=
  ∀ (s : State) (f : Frame), ∃ r, exec (.frameInvalid f) s =
      .next { s with
        cdr := { s.cdr with prevStatus := s.cfg.st.cksumErr }
        trace := s.trace ++ [.respOut r], raised := s.raised ++ [.checksumError] } ∧
    r = sealFrame s.cfg s.cfg.respMagic s.cfg.st.cksumErr
      ((mouseCode s.cfg s.out.mouseMode).setWidth 8 <<< s.cfg.layout.mouseLo |||
        (kbdCode s.cfg s.out.kbdMode).setWidth 8 <<< s.cfg.layout.kbdLo) s.cfg.avail 0 0 ∧
    (f[0] ≠ s.cfg.reqMagic ∨ f[6] ++ f[7] ≠ cksum16 s.cfg [f[0], f[1], f[2], f[3], f[4], f[5]] →
      decodeReq s.cfg f = .frameInvalid f)

/-! ### Commands and responses -/

/-- Rules R292, R293, R296, R303, R305: the commands that change no report state: what each answers, and that only
the previous status and the trace change. -/
def Obligations.StatusCommandsAnswer : Prop :=
  ∀ (s : State) (answer : Byte → State → State),
    (∀ code u, answer code u =
      { u with
        cdr := { u.cdr with prevStatus := code }
        trace := u.trace ++ [.respOut (sealFrame u.cfg u.cfg.respMagic code
          ((mouseCode u.cfg u.out.mouseMode).setWidth 8 <<< u.cfg.layout.mouseLo |||
            (kbdCode u.cfg u.out.kbdMode).setWidth 8 <<< u.cfg.layout.kbdLo) u.cfg.avail 0 0)] }) →
    exec .cmdPing s = .next (answer s.okStatus s) ∧
    exec .cmdSetConnected s = .next (answer s.okStatus s) ∧
    exec .cmdRepeat s = .next (answer s.cdr.prevStatus s) ∧
    ∀ cmd, exec (.cmdUnknown cmd) s =
      .next (answer s.cfg.st.invalid { s with raised := s.raised ++ [.invalidCommand] })

/-- Rules R304, R260, R125: which flags the status byte of an acknowledgement carries; it holds no bit beside `ST_OK`
and the three flags. -/
def Obligations.StatusFlagsTellRebootAndOffline : Prop :=
  ∀ s : State, s.cfg.st.Wf →
    s.okStatus.getLsbD 7 = true ∧
    (s.okStatus &&& s.cfg.st.resetReq ≠ 0 ↔ s.cdr.rebootReq = true) ∧
    (s.okStatus &&& s.cfg.st.mouseOffline ≠ 0 ↔
      (s.out.mouseMode = .usbAbs ∨ s.out.mouseMode = .usbRel ∨ s.out.mouseMode = .usbLegacyAbs) ∧
        s.mouse.online = false) ∧
    (s.okStatus &&& s.cfg.st.kbdOffline ≠ 0 ↔ s.out.kbdMode = .usb ∧ s.kbd.online = false) ∧
    s.okStatus &&& ~~~(s.cfg.st.ok ||| s.cfg.st.resetReq ||| s.cfg.st.mouseOffline ||| s.cfg.st.kbdOffline) = 0

/-- Rules R294, R295, R306: a mode command to a defined and available mode switches, answers with the new mode and a
status that does not yet show this switch, and then requests the reboot; any other mode is answered OK, with no
switch and no request. -/
def Obligations.ModeCommandsSwitchThenRequestReboot : Prop :=
  ∀ (s : State) (mode : ModeCode),
    (∃ u v, exec (.outSetKbd mode) s = .next u ∧ exec .cmdPing { u with ret := s.ret } = .next v ∧
        exec (.cmdSetKbd mode) s =
          .next { v with cdr := { v.cdr with rebootReq := s.cdr.rebootReq || u.ret == some true } }) ∧
    (∃ u v, exec (.outSetMouse mode) s = .next u ∧ exec .cmdPing { u with ret := s.ret } = .next v ∧
        exec (.cmdSetMouse mode) s =
          .next { v with cdr := { v.cdr with rebootReq := s.cdr.rebootReq || u.ret == some true } })

/-- Rules R297 to R302: the event commands: each hands its event to the unit of the active mode and then answers like a
ping on the state it left. Whether the PS/2 mouse gets bits 7..5 of a button operand (R299) or not (entry U14) is
the machine's reading, which is the model's field (assumption log 25). -/
def Obligations.EventCommandsRouteByMode : Prop :=
  ∀ s : State,
    (∃ u, exec .hidClear s = .next u ∧ exec .cmdClearHid s = exec .cmdPing u) ∧
    (∀ code pressed,
      (s.out.kbdMode = .usb → ∃ u, exec (.hidKey code pressed) s = .next u ∧
        exec (.cmdKey code pressed) s = exec .cmdPing u) ∧
      (s.out.kbdMode = .ps2 →
        exec (.cmdKey code pressed) s = exec .cmdPing (s.emit (.ps2KeyEvent code pressed))) ∧
      (s.out.kbdMode = .none → exec (.cmdKey code pressed) s = exec .cmdPing s)) ∧
    (s.out.mouseMode = .ps2 → ∀ (a b : Byte) (x y : Half),
      (s.cfg.reading.wholeButtons = true →
        exec (.cmdMouseBtn a b) s = exec .cmdPing (s.emit (.ps2MouseEvent .btn (a.setWidth 16) (b.setWidth 16)))) ∧
      (s.cfg.reading.wholeButtons = false →
        exec (.cmdMouseBtn a b) s =
          exec .cmdPing (s.emit (.ps2MouseEvent .btn ((a &&& 0x1F#8).setWidth 16) ((b &&& 0x1F#8).setWidth 16)))) ∧
      exec (.cmdMouseAbs x y) s = exec .cmdPing (s.emit (.ps2MouseEvent .abs x y)) ∧
      exec (.cmdMouseRel a b) s =
        exec .cmdPing (s.emit (.ps2MouseEvent .rel (a.signExtend 16) (b.signExtend 16))) ∧
      exec (.cmdMouseWheel a b) s =
        exec .cmdPing (s.emit (.ps2MouseEvent .wheel (a.signExtend 16) (b.signExtend 16)))) ∧
    (s.out.mouseMode ≠ .ps2 → ∀ (a b : Byte) (x y : Half),
      (∃ u, exec (.hidMbtn a b) s = .next u ∧ exec (.cmdMouseBtn a b) s = exec .cmdPing u) ∧
      (∃ u, exec (.hidMabs x y) s = .next u ∧ exec (.cmdMouseAbs x y) s = exec .cmdPing u) ∧
      (∃ u, exec (.hidMrel a b) s = .next u ∧ exec (.cmdMouseRel a b) s = exec .cmdPing u) ∧
      ∃ u, exec (.hidMwheel a b) s = .next u ∧ exec (.cmdMouseWheel a b) s = exec .cmdPing u)

/-- The commands of the link always complete, whatever the state: each leaves a next state with exactly one response
more on the trace (rule R290). -/
def Obligations.EveryCommandCompletesWithOneResponse : Prop :=
  ∀ (s : State) (i : Instr),
    ((∃ m, i = .cmdSetKbd m ∨ i = .cmdSetMouse m) ∨ (∃ code p, i = .cmdKey code p) ∨
      (∃ x y, i = .cmdMouseAbs x y) ∨ (∃ a b, i = .cmdMouseBtn a b ∨ i = .cmdMouseWheel a b ∨ i = .cmdMouseRel a b) ∨
      (∃ a, i = .cmdUnknown a) ∨ (∃ f, i = .frameInvalid f) ∨
      i = .cmdPing ∨ i = .cmdRepeat ∨ i = .cmdSetConnected ∨ i = .cmdClearHid) →
    ∃ t es, exec i s = .next t ∧ t.trace = s.trace ++ es ∧ responses es = 1 ∧
      t.phy0 = s.phy0 ∧ t.phy1 = s.phy1 ∧ t.fcv = s.fcv ∧ ∃ f, es.getLast? = some (.respOut f) ∧ f[1] = t.cdr.prevStatus

/-- Rule R309 (a): two pings with nothing between them are answered by the same eight bytes, and a repeat after any
response repeats its status byte. -/
def Obligations.RepeatedPingsAnswerIdentically : Prop :=
  ∀ s t u v : State, exec .cmdPing s = .next t → exec .cmdPing t = .next u → exec .cmdRepeat t = .next v →
    ∃ f g, t.trace = s.trace ++ [.respOut f] ∧ u.trace = t.trace ++ [.respOut f] ∧ v.trace = t.trace ++ [.respOut g] ∧
      g[1] = f[1]

/-! ### Reset -/

/-- Rules R360, R361, R58: every register takes its reset value, the modes are decoded from the mask, under the layout
that R6 makes a parameter, an undefined or unavailable one becoming none; nothing is emitted, the parameters stay. -/
def Obligations.ResetPutsEveryRegisterAtItsValue : Prop :=
  ∀ (s : State) (m : Byte), ∃ t, exec (.reset m) s = .next t ∧
    t.phy0 = { inited := false, byteq := [], packq := [], sent := 0, lastTx := 0, lastRx := 0, txf := [], rxf := [],
               err := false, rxFerr := false,
               eng := { st := .idle, bitn := 0, txSh := 0, rxSh := 0, rxPar := false, rxStop := false,
                        idleCnt := 0, dClk := true, dData := true } } ∧
    t.phy1 = t.phy0 ∧
    t.kbd = { mod := 0, keys := #v[0, 0, 0, 0, 0, 0], dirty := false, force := false, online := false,
              unreadyMs := 0 } ∧
    t.mouse = { buttons := 0, ax := 0, ay := 0, dx := 0, dy := 0, wheel := 0, dirty := false, force := false,
                online := false, unreadyMs := 0 } ∧
    t.fcv = { fbuf := #v[0, 0, 0, 0, 0, 0, 0, 0], fidx := 0, silentMs := 0 } ∧
    t.cdr = { prevStatus := s.cfg.st.noneYet, rebootReq := false } ∧
    (∀ k, decodeKbd s.cfg (m.extractLsb' s.cfg.layout.kbdLo 3) = some k → kbdAvailable s.cfg k = true →
      t.out.kbdMode = k) ∧
    (decodeKbd s.cfg (m.extractLsb' s.cfg.layout.kbdLo 3) = none ∨
        (∃ k, decodeKbd s.cfg (m.extractLsb' s.cfg.layout.kbdLo 3) = some k ∧ kbdAvailable s.cfg k = false) →
      t.out.kbdMode = .none) ∧
    (∀ k, decodeMouse s.cfg (m.extractLsb' s.cfg.layout.mouseLo 3) = some k → mouseAvailable s.cfg k = true →
      t.out.mouseMode = k) ∧
    (decodeMouse s.cfg (m.extractLsb' s.cfg.layout.mouseLo 3) = none ∨
        (∃ k, decodeMouse s.cfg (m.extractLsb' s.cfg.layout.mouseLo 3) = some k ∧ mouseAvailable s.cfg k = false) →
      t.out.mouseMode = .none) ∧
    t.cfg = s.cfg ∧ t.port = s.port ∧ t.trace = s.trace ∧ t.raised = s.raised ∧ t.ret = s.ret

/-! ### Whole-machine rules -/

/-- Rules R21, R344, R378: each unit's registers are written only by that unit's operations, and by the commands and the
timeout that invoke them: a PHY instance by its own line's, the frame validator by the link's, the modes by a switch,
the keyboard and the mouse by the `HID_*` operations, the response state by `HANDLE` and the timeout. A `LINK_BYTE`
reaches beyond the frame validator only with the eighth byte. -/
def Obligations.UnitsOwnTheirRegisters : Prop :=
  ∀ (i : Instr) (s t : State), exec i s = .next t → (∀ m, i ≠ .reset m) →
    (∀ d, phyLine i ≠ some d → t.phy d = s.phy d) ∧
    ((∃ d, phyLine i = some d) → t.out = s.out ∧ t.kbd = s.kbd ∧ t.mouse = s.mouse ∧ t.fcv = s.fcv ∧ t.cdr = s.cdr) ∧
    (t.fcv ≠ s.fcv → (∃ b, i = .linkByte b) ∨ i = .linkTickMs ∨ i = .linkResync) ∧
    (t.out ≠ s.out → (∃ m, i = .outSetKbd m ∨ i = .outSetMouse m ∨ i = .cmdSetKbd m ∨ i = .cmdSetMouse m) ∨
      (∃ b, i = .linkByte b) ∧ s.fcv.fidx = 7) ∧
    (t.kbd ≠ s.kbd → (∃ code p, i = .hidKey code p ∨ i = .cmdKey code p) ∨
      i = .hidClear ∨ i = .cmdClearHid ∨ (∃ kr mr, i = .hidTickMs kr mr) ∨
      (∃ susp kr mr ko mo, i = .hidSync susp kr mr ko mo) ∨
      (∃ m, i = .outSetKbd m ∨ i = .outSetMouse m ∨ i = .cmdSetKbd m ∨ i = .cmdSetMouse m) ∨
      i = .linkTickMs ∨ (∃ b, i = .linkByte b) ∧ s.fcv.fidx = 7) ∧
    (t.mouse ≠ s.mouse → (∃ a b, i = .hidMbtn a b ∨ i = .cmdMouseBtn a b ∨ i = .hidMrel a b ∨ i = .cmdMouseRel a b ∨
        i = .hidMwheel a b ∨ i = .cmdMouseWheel a b) ∨
      (∃ x y, i = .hidMabs x y ∨ i = .cmdMouseAbs x y) ∨
      i = .hidClear ∨ i = .cmdClearHid ∨ (∃ kr mr, i = .hidTickMs kr mr) ∨
      (∃ susp kr mr ko mo, i = .hidSync susp kr mr ko mo) ∨
      (∃ m, i = .outSetKbd m ∨ i = .outSetMouse m ∨ i = .cmdSetKbd m ∨ i = .cmdSetMouse m) ∨
      i = .linkTickMs ∨ (∃ b, i = .linkByte b) ∧ s.fcv.fidx = 7) ∧
    (t.cdr ≠ s.cdr → (∃ m, i = .cmdSetKbd m ∨ i = .cmdSetMouse m) ∨ (∃ code p, i = .cmdKey code p) ∨
      (∃ x y, i = .cmdMouseAbs x y) ∨ (∃ a b, i = .cmdMouseBtn a b ∨ i = .cmdMouseWheel a b ∨ i = .cmdMouseRel a b) ∨
      (∃ a, i = .cmdUnknown a) ∨ (∃ f, i = .frameInvalid f) ∨
      i = .cmdPing ∨ i = .cmdRepeat ∨ i = .cmdSetConnected ∨ i = .cmdClearHid ∨
      i = .linkTickMs ∨ (∃ b, i = .linkByte b) ∧ s.fcv.fidx = 7) ∧
    t.cfg = s.cfg ∧ t.port = s.port ∧ s.trace <+: t.trace ∧ s.raised <+: t.raised

/-- Rules R80, R270: `FBUF` is stored to only by `LINK_BYTE`, at the frame index, and by `RESET`; every other element
of it reads as before. -/
def Obligations.OnlyLinkByteStoresToTheFrameBuffer : Prop :=
  ∀ (i : Instr) (s t : State), exec i s = .next t → (∀ m, i ≠ .reset m) →
    ∀ k : Fin 8, (∀ b, i = .linkByte b → k ≠ s.fcv.fidx) → t.memRead (.fbuf k) = s.memRead (.fbuf k)

/-- Rules R57, R306: nothing but `RESET` clears the reboot request, and nothing but a mode command sets it. -/
def Obligations.RebootRequestIsCancelledOnlyByReset : Prop :=
  ∀ (i : Instr) (s t : State), exec i s = .next t → (∀ m, i ≠ .reset m) →
    (s.cdr.rebootReq = true → t.cdr.rebootReq = true) ∧
    (s.cdr.rebootReq = false → t.cdr.rebootReq = true →
      (∃ m, i = .cmdSetKbd m ∨ i = .cmdSetMouse m) ∨ ∃ b, i = .linkByte b)

/-- Rule R257 and property T3 of `spec/95_test_vectors.md`: whenever an instruction other than `RESET` leaves the
keyboard or the mouse in a different mode, no key, modifier or button is held, no position or delta is stored, and
`ps2_clear` was emitted. -/
def Obligations.NoKeyIsStuckAcrossAModeSwitch : Prop :=
  ∀ (i : Instr) (s t : State), exec i s = .next t → (∀ m, i ≠ .reset m) → t.out ≠ s.out →
    (∀ j : Fin 6, t.memRead (.key j) = 0) ∧ t.kbd.mod = 0 ∧ t.mouse.buttons = 0 ∧ t.mouse.ax = 0 ∧ t.mouse.ay = 0 ∧
    t.mouse.dx = 0 ∧ t.mouse.dy = 0 ∧ t.mouse.wheel = 0 ∧ t.kbd.dirty = true ∧ t.mouse.dirty = true ∧
    ∃ es, t.trace = s.trace ++ es ∧ .ps2Clear ∈ es

/-- Rules R125, R309 (d): no response ever carries status 0, from any state of the invariant. -/
def Obligations.NoResponseCarriesStatusZero : Prop :=
  ∀ (s t : State), s.Inv → step s = .next t → ∃ es, t.trace = s.trace ++ es ∧ ∀ f, .respOut f ∈ es → f[1] ≠ 0

/-- Rules R33, R36, R41, R44, R47, R55, R82, R115, R217, R240: every step keeps the block's invariant. -/
def Obligations.StepKeepsTheStateInvariant : Prop :=
  ∀ s t : State, s.Inv → step s = .next t → t.Inv

/-- Rule R58: the state right after any `RESET`, under any setting of the parameters the spec allows, has the
invariant, and so has the model's one reset state (whose boot mask is the model's choice, assumption log 6). -/
def Obligations.ResetStateHasTheInvariant : Prop :=
  (∀ (c : Config) (m : Byte), c.Wf → (State.resetWith c m).Inv) ∧ State.reset.Inv

/-- Rule R320: from every state of the invariant the next step completes, whatever word is on the port; along any
number of steps the machine never stops. -/
def Obligations.NoStepEverStopsTheBlock : Prop :=
  ∀ (s : State), s.Inv → s.Safe ∧ ∀ n, ∃ t : State,
    Host.Core.run { State := State, Fault := Fault, Refusal := Refusal, step := step, reset := State.reset } n s =
      .next t ∧ t.Inv
end

