-- ==== Sys2Proof/Laws/State.lean ====
section
/-! SUPPORT. One lemma per field per state update, so that no proof unfolds a record update. -/

namespace Sys2Proof.Machine

/-! `State.emit` -/
@[simp] theorem State.emit_cfg (s : State) (e : Event) : (s.emit e).cfg = s.cfg := rfl
@[simp] theorem State.emit_port (s : State) (e : Event) : (s.emit e).port = s.port := rfl
@[simp] theorem State.emit_phy0 (s : State) (e : Event) : (s.emit e).phy0 = s.phy0 := rfl
@[simp] theorem State.emit_phy1 (s : State) (e : Event) : (s.emit e).phy1 = s.phy1 := rfl
@[simp] theorem State.emit_out (s : State) (e : Event) : (s.emit e).out = s.out := rfl
@[simp] theorem State.emit_kbd (s : State) (e : Event) : (s.emit e).kbd = s.kbd := rfl
@[simp] theorem State.emit_mouse (s : State) (e : Event) : (s.emit e).mouse = s.mouse := rfl
@[simp] theorem State.emit_fcv (s : State) (e : Event) : (s.emit e).fcv = s.fcv := rfl
@[simp] theorem State.emit_cdr (s : State) (e : Event) : (s.emit e).cdr = s.cdr := rfl
@[simp] theorem State.emit_trace (s : State) (e : Event) : (s.emit e).trace = s.trace ++ [e] := rfl
@[simp] theorem State.emit_raised (s : State) (e : Event) : (s.emit e).raised = s.raised := rfl
@[simp] theorem State.emit_ret (s : State) (e : Event) : (s.emit e).ret = s.ret := rfl

/-! `State.raise` -/
@[simp] theorem State.raise_cfg (s : State) (e : ErrEvent) : (s.raise e).cfg = s.cfg := rfl
@[simp] theorem State.raise_port (s : State) (e : ErrEvent) : (s.raise e).port = s.port := rfl
@[simp] theorem State.raise_phy0 (s : State) (e : ErrEvent) : (s.raise e).phy0 = s.phy0 := rfl
@[simp] theorem State.raise_phy1 (s : State) (e : ErrEvent) : (s.raise e).phy1 = s.phy1 := rfl
@[simp] theorem State.raise_out (s : State) (e : ErrEvent) : (s.raise e).out = s.out := rfl
@[simp] theorem State.raise_kbd (s : State) (e : ErrEvent) : (s.raise e).kbd = s.kbd := rfl
@[simp] theorem State.raise_mouse (s : State) (e : ErrEvent) : (s.raise e).mouse = s.mouse := rfl
@[simp] theorem State.raise_fcv (s : State) (e : ErrEvent) : (s.raise e).fcv = s.fcv := rfl
@[simp] theorem State.raise_cdr (s : State) (e : ErrEvent) : (s.raise e).cdr = s.cdr := rfl
@[simp] theorem State.raise_trace (s : State) (e : ErrEvent) : (s.raise e).trace = s.trace := rfl
@[simp] theorem State.raise_raised (s : State) (e : ErrEvent) : (s.raise e).raised = s.raised ++ [e] := rfl
@[simp] theorem State.raise_ret (s : State) (e : ErrEvent) : (s.raise e).ret = s.ret := rfl

/-! `State.raiseIf` -/
@[simp] theorem State.raiseIf_cfg (s : State) (b : Bool) (e : ErrEvent) : (s.raiseIf b e).cfg = s.cfg := by cases b <;> simp [State.raiseIf]
@[simp] theorem State.raiseIf_port (s : State) (b : Bool) (e : ErrEvent) : (s.raiseIf b e).port = s.port := by cases b <;> simp [State.raiseIf]
@[simp] theorem State.raiseIf_phy0 (s : State) (b : Bool) (e : ErrEvent) : (s.raiseIf b e).phy0 = s.phy0 := by cases b <;> simp [State.raiseIf]
@[simp] theorem State.raiseIf_phy1 (s : State) (b : Bool) (e : ErrEvent) : (s.raiseIf b e).phy1 = s.phy1 := by cases b <;> simp [State.raiseIf]
@[simp] theorem State.raiseIf_out (s : State) (b : Bool) (e : ErrEvent) : (s.raiseIf b e).out = s.out := by cases b <;> simp [State.raiseIf]
@[simp] theorem State.raiseIf_kbd (s : State) (b : Bool) (e : ErrEvent) : (s.raiseIf b e).kbd = s.kbd := by cases b <;> simp [State.raiseIf]
@[simp] theorem State.raiseIf_mouse (s : State) (b : Bool) (e : ErrEvent) : (s.raiseIf b e).mouse = s.mouse := by cases b <;> simp [State.raiseIf]
@[simp] theorem State.raiseIf_fcv (s : State) (b : Bool) (e : ErrEvent) : (s.raiseIf b e).fcv = s.fcv := by cases b <;> simp [State.raiseIf]
@[simp] theorem State.raiseIf_cdr (s : State) (b : Bool) (e : ErrEvent) : (s.raiseIf b e).cdr = s.cdr := by cases b <;> simp [State.raiseIf]
@[simp] theorem State.raiseIf_trace (s : State) (b : Bool) (e : ErrEvent) : (s.raiseIf b e).trace = s.trace := by cases b <;> simp [State.raiseIf]
@[simp] theorem State.raiseIf_raised (s : State) (b : Bool) (e : ErrEvent) : (s.raiseIf b e).raised = s.raised ++ (if b then [e] else []) := by cases b <;> simp [State.raiseIf]
@[simp] theorem State.raiseIf_ret (s : State) (b : Bool) (e : ErrEvent) : (s.raiseIf b e).ret = s.ret := by cases b <;> simp [State.raiseIf]

/-! `State.returning` -/
@[simp] theorem State.returning_cfg (s : State) (b : Bool) : (s.returning b).cfg = s.cfg := rfl
@[simp] theorem State.returning_port (s : State) (b : Bool) : (s.returning b).port = s.port := rfl
@[simp] theorem State.returning_phy0 (s : State) (b : Bool) : (s.returning b).phy0 = s.phy0 := rfl
@[simp] theorem State.returning_phy1 (s : State) (b : Bool) : (s.returning b).phy1 = s.phy1 := rfl
@[simp] theorem State.returning_out (s : State) (b : Bool) : (s.returning b).out = s.out := rfl
@[simp] theorem State.returning_kbd (s : State) (b : Bool) : (s.returning b).kbd = s.kbd := rfl
@[simp] theorem State.returning_mouse (s : State) (b : Bool) : (s.returning b).mouse = s.mouse := rfl
@[simp] theorem State.returning_fcv (s : State) (b : Bool) : (s.returning b).fcv = s.fcv := rfl
@[simp] theorem State.returning_cdr (s : State) (b : Bool) : (s.returning b).cdr = s.cdr := rfl
@[simp] theorem State.returning_trace (s : State) (b : Bool) : (s.returning b).trace = s.trace := rfl
@[simp] theorem State.returning_raised (s : State) (b : Bool) : (s.returning b).raised = s.raised := rfl
@[simp] theorem State.returning_ret (s : State) (b : Bool) : (s.returning b).ret = some b := rfl

/-! `State.takeWord` -/
@[simp] theorem State.takeWord_cfg (s : State) (r : List OpWord) : (s.takeWord r).cfg = s.cfg := rfl
@[simp] theorem State.takeWord_port (s : State) (r : List OpWord) : (s.takeWord r).port = r := rfl
@[simp] theorem State.takeWord_phy0 (s : State) (r : List OpWord) : (s.takeWord r).phy0 = s.phy0 := rfl
@[simp] theorem State.takeWord_phy1 (s : State) (r : List OpWord) : (s.takeWord r).phy1 = s.phy1 := rfl
@[simp] theorem State.takeWord_out (s : State) (r : List OpWord) : (s.takeWord r).out = s.out := rfl
@[simp] theorem State.takeWord_kbd (s : State) (r : List OpWord) : (s.takeWord r).kbd = s.kbd := rfl
@[simp] theorem State.takeWord_mouse (s : State) (r : List OpWord) : (s.takeWord r).mouse = s.mouse := rfl
@[simp] theorem State.takeWord_fcv (s : State) (r : List OpWord) : (s.takeWord r).fcv = s.fcv := rfl
@[simp] theorem State.takeWord_cdr (s : State) (r : List OpWord) : (s.takeWord r).cdr = s.cdr := rfl
@[simp] theorem State.takeWord_trace (s : State) (r : List OpWord) : (s.takeWord r).trace = s.trace := rfl
@[simp] theorem State.takeWord_raised (s : State) (r : List OpWord) : (s.takeWord r).raised = s.raised := rfl
@[simp] theorem State.takeWord_ret (s : State) (r : List OpWord) : (s.takeWord r).ret = none := rfl

/-! `State.setPhy` -/
@[simp] theorem State.setPhy_cfg (s : State) (d : Dev) (p : Phy) : (s.setPhy d p).cfg = s.cfg := by cases d <;> rfl
@[simp] theorem State.setPhy_port (s : State) (d : Dev) (p : Phy) : (s.setPhy d p).port = s.port := by cases d <;> rfl
@[simp] theorem State.setPhy_out (s : State) (d : Dev) (p : Phy) : (s.setPhy d p).out = s.out := by cases d <;> rfl
@[simp] theorem State.setPhy_kbd (s : State) (d : Dev) (p : Phy) : (s.setPhy d p).kbd = s.kbd := by cases d <;> rfl
@[simp] theorem State.setPhy_mouse (s : State) (d : Dev) (p : Phy) : (s.setPhy d p).mouse = s.mouse := by cases d <;> rfl
@[simp] theorem State.setPhy_fcv (s : State) (d : Dev) (p : Phy) : (s.setPhy d p).fcv = s.fcv := by cases d <;> rfl
@[simp] theorem State.setPhy_cdr (s : State) (d : Dev) (p : Phy) : (s.setPhy d p).cdr = s.cdr := by cases d <;> rfl
@[simp] theorem State.setPhy_trace (s : State) (d : Dev) (p : Phy) : (s.setPhy d p).trace = s.trace := by cases d <;> rfl
@[simp] theorem State.setPhy_raised (s : State) (d : Dev) (p : Phy) : (s.setPhy d p).raised = s.raised := by cases d <;> rfl
@[simp] theorem State.setPhy_ret (s : State) (d : Dev) (p : Phy) : (s.setPhy d p).ret = s.ret := by cases d <;> rfl

/-! `State.applyPhy` -/
@[simp] theorem State.applyPhy_cfg (s : State) (d : Dev) (o : PhyOut) : (s.applyPhy d o).cfg = s.cfg := by cases d <;> rfl
@[simp] theorem State.applyPhy_port (s : State) (d : Dev) (o : PhyOut) : (s.applyPhy d o).port = s.port := by cases d <;> rfl
@[simp] theorem State.applyPhy_out (s : State) (d : Dev) (o : PhyOut) : (s.applyPhy d o).out = s.out := by cases d <;> rfl
@[simp] theorem State.applyPhy_kbd (s : State) (d : Dev) (o : PhyOut) : (s.applyPhy d o).kbd = s.kbd := by cases d <;> rfl
@[simp] theorem State.applyPhy_mouse (s : State) (d : Dev) (o : PhyOut) : (s.applyPhy d o).mouse = s.mouse := by cases d <;> rfl
@[simp] theorem State.applyPhy_fcv (s : State) (d : Dev) (o : PhyOut) : (s.applyPhy d o).fcv = s.fcv := by cases d <;> rfl
@[simp] theorem State.applyPhy_cdr (s : State) (d : Dev) (o : PhyOut) : (s.applyPhy d o).cdr = s.cdr := by cases d <;> rfl
@[simp] theorem State.applyPhy_trace (s : State) (d : Dev) (o : PhyOut) : (s.applyPhy d o).trace = s.trace ++ o.events := by cases d <;> rfl
@[simp] theorem State.applyPhy_raised (s : State) (d : Dev) (o : PhyOut) : (s.applyPhy d o).raised = s.raised ++ o.errs := by cases d <;> rfl
@[simp] theorem State.applyPhy_ret (s : State) (d : Dev) (o : PhyOut) : (s.applyPhy d o).ret = s.ret := by cases d <;> rfl

/-! `State.hidClear` -/
@[simp] theorem State.hidClear_cfg (s : State) : (s.hidClear).cfg = s.cfg := rfl
@[simp] theorem State.hidClear_port (s : State) : (s.hidClear).port = s.port := rfl
@[simp] theorem State.hidClear_phy0 (s : State) : (s.hidClear).phy0 = s.phy0 := rfl
@[simp] theorem State.hidClear_phy1 (s : State) : (s.hidClear).phy1 = s.phy1 := rfl
@[simp] theorem State.hidClear_out (s : State) : (s.hidClear).out = s.out := rfl
@[simp] theorem State.hidClear_kbd (s : State) : (s.hidClear).kbd = s.kbd.clear := rfl
@[simp] theorem State.hidClear_mouse (s : State) : (s.hidClear).mouse = s.mouse.clear := rfl
@[simp] theorem State.hidClear_fcv (s : State) : (s.hidClear).fcv = s.fcv := rfl
@[simp] theorem State.hidClear_cdr (s : State) : (s.hidClear).cdr = s.cdr := rfl
@[simp] theorem State.hidClear_trace (s : State) : (s.hidClear).trace = s.trace := rfl
@[simp] theorem State.hidClear_raised (s : State) : (s.hidClear).raised = s.raised := rfl
@[simp] theorem State.hidClear_ret (s : State) : (s.hidClear).ret = s.ret := rfl

/-! `State.hidTick` -/
@[simp] theorem State.hidTick_cfg (s : State) (k m : Bool) : (s.hidTick k m).cfg = s.cfg := rfl
@[simp] theorem State.hidTick_port (s : State) (k m : Bool) : (s.hidTick k m).port = s.port := rfl
@[simp] theorem State.hidTick_phy0 (s : State) (k m : Bool) : (s.hidTick k m).phy0 = s.phy0 := rfl
@[simp] theorem State.hidTick_phy1 (s : State) (k m : Bool) : (s.hidTick k m).phy1 = s.phy1 := rfl
@[simp] theorem State.hidTick_out (s : State) (k m : Bool) : (s.hidTick k m).out = s.out := rfl
@[simp] theorem State.hidTick_kbd (s : State) (k m : Bool) : (s.hidTick k m).kbd = { s.kbd with toIface := s.kbd.toIface.tick s.cfg.hystMs k } := rfl
@[simp] theorem State.hidTick_mouse (s : State) (k m : Bool) : (s.hidTick k m).mouse = { s.mouse with toIface := s.mouse.toIface.tick s.cfg.hystMs m } := rfl
@[simp] theorem State.hidTick_fcv (s : State) (k m : Bool) : (s.hidTick k m).fcv = s.fcv := rfl
@[simp] theorem State.hidTick_cdr (s : State) (k m : Bool) : (s.hidTick k m).cdr = s.cdr := rfl
@[simp] theorem State.hidTick_trace (s : State) (k m : Bool) : (s.hidTick k m).trace = s.trace := rfl
@[simp] theorem State.hidTick_raised (s : State) (k m : Bool) : (s.hidTick k m).raised = s.raised := rfl
@[simp] theorem State.hidTick_ret (s : State) (k m : Bool) : (s.hidTick k m).ret = s.ret := rfl

/-! `State.switchKbd` -/
@[simp] theorem State.switchKbd_cfg (s : State) (m : KbdMode) : (s.switchKbd m).cfg = s.cfg := rfl
@[simp] theorem State.switchKbd_port (s : State) (m : KbdMode) : (s.switchKbd m).port = s.port := rfl
@[simp] theorem State.switchKbd_phy0 (s : State) (m : KbdMode) : (s.switchKbd m).phy0 = s.phy0 := rfl
@[simp] theorem State.switchKbd_phy1 (s : State) (m : KbdMode) : (s.switchKbd m).phy1 = s.phy1 := rfl
@[simp] theorem State.switchKbd_out (s : State) (m : KbdMode) : (s.switchKbd m).out = { s.out with kbdMode := m } := rfl
@[simp] theorem State.switchKbd_kbd (s : State) (m : KbdMode) : (s.switchKbd m).kbd = s.kbd.clear := rfl
@[simp] theorem State.switchKbd_mouse (s : State) (m : KbdMode) : (s.switchKbd m).mouse = s.mouse.clear := rfl
@[simp] theorem State.switchKbd_fcv (s : State) (m : KbdMode) : (s.switchKbd m).fcv = s.fcv := rfl
@[simp] theorem State.switchKbd_cdr (s : State) (m : KbdMode) : (s.switchKbd m).cdr = s.cdr := rfl
@[simp] theorem State.switchKbd_trace (s : State) (m : KbdMode) : (s.switchKbd m).trace = s.trace ++ [.ps2Clear] := rfl
@[simp] theorem State.switchKbd_raised (s : State) (m : KbdMode) : (s.switchKbd m).raised = s.raised := rfl
@[simp] theorem State.switchKbd_ret (s : State) (m : KbdMode) : (s.switchKbd m).ret = s.ret := rfl

/-! `State.switchMouse` -/
@[simp] theorem State.switchMouse_cfg (s : State) (m : MouseMode) : (s.switchMouse m).cfg = s.cfg := rfl
@[simp] theorem State.switchMouse_port (s : State) (m : MouseMode) : (s.switchMouse m).port = s.port := rfl
@[simp] theorem State.switchMouse_phy0 (s : State) (m : MouseMode) : (s.switchMouse m).phy0 = s.phy0 := rfl
@[simp] theorem State.switchMouse_phy1 (s : State) (m : MouseMode) : (s.switchMouse m).phy1 = s.phy1 := rfl
@[simp] theorem State.switchMouse_out (s : State) (m : MouseMode) : (s.switchMouse m).out = { s.out with mouseMode := m } := rfl
@[simp] theorem State.switchMouse_kbd (s : State) (m : MouseMode) : (s.switchMouse m).kbd = s.kbd.clear := rfl
@[simp] theorem State.switchMouse_mouse (s : State) (m : MouseMode) : (s.switchMouse m).mouse = s.mouse.clear := rfl
@[simp] theorem State.switchMouse_fcv (s : State) (m : MouseMode) : (s.switchMouse m).fcv = s.fcv := rfl
@[simp] theorem State.switchMouse_cdr (s : State) (m : MouseMode) : (s.switchMouse m).cdr = s.cdr := rfl
@[simp] theorem State.switchMouse_trace (s : State) (m : MouseMode) : (s.switchMouse m).trace = s.trace ++ [.ps2Clear] := rfl
@[simp] theorem State.switchMouse_raised (s : State) (m : MouseMode) : (s.switchMouse m).raised = s.raised := rfl
@[simp] theorem State.switchMouse_ret (s : State) (m : MouseMode) : (s.switchMouse m).ret = s.ret := rfl

/-! `State.respond` -/
@[simp] theorem State.respond_cfg (s : State) (n : NewStatus) : (s.respond n).cfg = s.cfg := rfl
@[simp] theorem State.respond_port (s : State) (n : NewStatus) : (s.respond n).port = s.port := rfl
@[simp] theorem State.respond_phy0 (s : State) (n : NewStatus) : (s.respond n).phy0 = s.phy0 := rfl
@[simp] theorem State.respond_phy1 (s : State) (n : NewStatus) : (s.respond n).phy1 = s.phy1 := rfl
@[simp] theorem State.respond_out (s : State) (n : NewStatus) : (s.respond n).out = s.out := rfl
@[simp] theorem State.respond_kbd (s : State) (n : NewStatus) : (s.respond n).kbd = s.kbd := rfl
@[simp] theorem State.respond_mouse (s : State) (n : NewStatus) : (s.respond n).mouse = s.mouse := rfl
@[simp] theorem State.respond_fcv (s : State) (n : NewStatus) : (s.respond n).fcv = s.fcv := rfl
@[simp] theorem State.respond_cdr (s : State) (n : NewStatus) : (s.respond n).cdr = { s.cdr with prevStatus := s.responseCode n } := rfl
@[simp] theorem State.respond_trace (s : State) (n : NewStatus) : (s.respond n).trace = s.trace ++ [.respOut (s.responseFrame (s.responseCode n))] := rfl
@[simp] theorem State.respond_raised (s : State) (n : NewStatus) : (s.respond n).raised = s.raised := rfl
@[simp] theorem State.respond_ret (s : State) (n : NewStatus) : (s.respond n).ret = s.ret := rfl

/-! `State.requestReboot` -/
@[simp] theorem State.requestReboot_cfg (s : State) (b : Bool) : (s.requestReboot b).cfg = s.cfg := rfl
@[simp] theorem State.requestReboot_port (s : State) (b : Bool) : (s.requestReboot b).port = s.port := rfl
@[simp] theorem State.requestReboot_phy0 (s : State) (b : Bool) : (s.requestReboot b).phy0 = s.phy0 := rfl
@[simp] theorem State.requestReboot_phy1 (s : State) (b : Bool) : (s.requestReboot b).phy1 = s.phy1 := rfl
@[simp] theorem State.requestReboot_out (s : State) (b : Bool) : (s.requestReboot b).out = s.out := rfl
@[simp] theorem State.requestReboot_kbd (s : State) (b : Bool) : (s.requestReboot b).kbd = s.kbd := rfl
@[simp] theorem State.requestReboot_mouse (s : State) (b : Bool) : (s.requestReboot b).mouse = s.mouse := rfl
@[simp] theorem State.requestReboot_fcv (s : State) (b : Bool) : (s.requestReboot b).fcv = s.fcv := rfl
@[simp] theorem State.requestReboot_cdr (s : State) (b : Bool) : (s.requestReboot b).cdr = { s.cdr with rebootReq := s.cdr.rebootReq || b } := rfl
@[simp] theorem State.requestReboot_trace (s : State) (b : Bool) : (s.requestReboot b).trace = s.trace := rfl
@[simp] theorem State.requestReboot_raised (s : State) (b : Bool) : (s.requestReboot b).raised = s.raised := rfl
@[simp] theorem State.requestReboot_ret (s : State) (b : Bool) : (s.requestReboot b).ret = s.ret := rfl

/-! `State.storeLinkByte` -/
@[simp] theorem State.storeLinkByte_cfg (s : State) (b : Byte) : (s.storeLinkByte b).cfg = s.cfg := rfl
@[simp] theorem State.storeLinkByte_port (s : State) (b : Byte) : (s.storeLinkByte b).port = s.port := rfl
@[simp] theorem State.storeLinkByte_phy0 (s : State) (b : Byte) : (s.storeLinkByte b).phy0 = s.phy0 := rfl
@[simp] theorem State.storeLinkByte_phy1 (s : State) (b : Byte) : (s.storeLinkByte b).phy1 = s.phy1 := rfl
@[simp] theorem State.storeLinkByte_out (s : State) (b : Byte) : (s.storeLinkByte b).out = s.out := rfl
@[simp] theorem State.storeLinkByte_kbd (s : State) (b : Byte) : (s.storeLinkByte b).kbd = s.kbd := rfl
@[simp] theorem State.storeLinkByte_mouse (s : State) (b : Byte) : (s.storeLinkByte b).mouse = s.mouse := rfl
@[simp] theorem State.storeLinkByte_fcv (s : State) (b : Byte) : (s.storeLinkByte b).fcv = { s.fcv with fbuf := s.fcv.fbuf.set s.fcv.fidx b, silentMs := 0 } := rfl
@[simp] theorem State.storeLinkByte_cdr (s : State) (b : Byte) : (s.storeLinkByte b).cdr = s.cdr := rfl
@[simp] theorem State.storeLinkByte_trace (s : State) (b : Byte) : (s.storeLinkByte b).trace = s.trace := rfl
@[simp] theorem State.storeLinkByte_raised (s : State) (b : Byte) : (s.storeLinkByte b).raised = s.raised := rfl
@[simp] theorem State.storeLinkByte_ret (s : State) (b : Byte) : (s.storeLinkByte b).ret = s.ret := rfl

/-! `State.setFidx` -/
@[simp] theorem State.setFidx_cfg (s : State) (i : Fin 8) : (s.setFidx i).cfg = s.cfg := rfl
@[simp] theorem State.setFidx_port (s : State) (i : Fin 8) : (s.setFidx i).port = s.port := rfl
@[simp] theorem State.setFidx_phy0 (s : State) (i : Fin 8) : (s.setFidx i).phy0 = s.phy0 := rfl
@[simp] theorem State.setFidx_phy1 (s : State) (i : Fin 8) : (s.setFidx i).phy1 = s.phy1 := rfl
@[simp] theorem State.setFidx_out (s : State) (i : Fin 8) : (s.setFidx i).out = s.out := rfl
@[simp] theorem State.setFidx_kbd (s : State) (i : Fin 8) : (s.setFidx i).kbd = s.kbd := rfl
@[simp] theorem State.setFidx_mouse (s : State) (i : Fin 8) : (s.setFidx i).mouse = s.mouse := rfl
@[simp] theorem State.setFidx_fcv (s : State) (i : Fin 8) : (s.setFidx i).fcv = { s.fcv with fidx := i } := rfl
@[simp] theorem State.setFidx_cdr (s : State) (i : Fin 8) : (s.setFidx i).cdr = s.cdr := rfl
@[simp] theorem State.setFidx_trace (s : State) (i : Fin 8) : (s.setFidx i).trace = s.trace := rfl
@[simp] theorem State.setFidx_raised (s : State) (i : Fin 8) : (s.setFidx i).raised = s.raised := rfl
@[simp] theorem State.setFidx_ret (s : State) (i : Fin 8) : (s.setFidx i).ret = s.ret := rfl

/-! `State.discardFrame` -/
@[simp] theorem State.discardFrame_cfg (s : State) : (s.discardFrame).cfg = s.cfg := rfl
@[simp] theorem State.discardFrame_port (s : State) : (s.discardFrame).port = s.port := rfl
@[simp] theorem State.discardFrame_phy0 (s : State) : (s.discardFrame).phy0 = s.phy0 := rfl
@[simp] theorem State.discardFrame_phy1 (s : State) : (s.discardFrame).phy1 = s.phy1 := rfl
@[simp] theorem State.discardFrame_out (s : State) : (s.discardFrame).out = s.out := rfl
@[simp] theorem State.discardFrame_kbd (s : State) : (s.discardFrame).kbd = s.kbd := rfl
@[simp] theorem State.discardFrame_mouse (s : State) : (s.discardFrame).mouse = s.mouse := rfl
@[simp] theorem State.discardFrame_fcv (s : State) : (s.discardFrame).fcv = { s.fcv with fidx := 0, silentMs := 0 } := rfl
@[simp] theorem State.discardFrame_cdr (s : State) : (s.discardFrame).cdr = s.cdr := rfl
@[simp] theorem State.discardFrame_trace (s : State) : (s.discardFrame).trace = s.trace := rfl
@[simp] theorem State.discardFrame_raised (s : State) : (s.discardFrame).raised = s.raised := rfl
@[simp] theorem State.discardFrame_ret (s : State) : (s.discardFrame).ret = s.ret := rfl

/-! The PHY instances. -/

@[simp] theorem State.phy_line0 (s : State) : s.phy .line0 = s.phy0 := rfl
@[simp] theorem State.phy_line1 (s : State) : s.phy .line1 = s.phy1 := rfl
@[simp] theorem State.setPhy_phy_self (s : State) (d : Dev) (p : Phy) : (s.setPhy d p).phy d = p := by
  cases d <;> rfl
theorem State.setPhy_phy_ne (s : State) {d e : Dev} (p : Phy) (h : e ≠ d) : (s.setPhy d p).phy e = s.phy e := by
  cases d <;> cases e <;> first | rfl | exact absurd rfl h
@[simp] theorem State.setPhy_phy_eq (s : State) (d : Dev) : s.setPhy d (s.phy d) = s := by
  cases d <;> rfl
@[simp] theorem State.setPhy_setPhy (s : State) (d : Dev) (p q : Phy) : (s.setPhy d p).setPhy d q = s.setPhy d q := by
  cases d <;> rfl
@[simp] theorem State.applyPhy_phy_self (s : State) (d : Dev) (o : PhyOut) : (s.applyPhy d o).phy d = o.phy := by
  cases d <;> rfl
theorem State.applyPhy_phy_ne (s : State) {d e : Dev} (o : PhyOut) (h : e ≠ d) :
    (s.applyPhy d o).phy e = s.phy e := by
  cases d <;> cases e <;> first | rfl | exact absurd rfl h
theorem State.applyPhy_eq (s : State) (d : Dev) (o : PhyOut) :
    s.applyPhy d o =
      { s.setPhy d o.phy with raised := s.raised ++ o.errs, trace := s.trace ++ o.events } := rfl

/-! The storage spaces (rule R80): a read after a write gives the value written there and leaves every other element
alone. -/

@[simp] theorem State.memRead_memWrite_self (s : State) (l : Loc) (v : Byte) : (s.memWrite l v).memRead l = v := by
  cases l <;> simp [State.memRead, State.memWrite]

theorem State.memRead_memWrite_ne (s : State) {l m : Loc} (v : Byte) (h : m ≠ l) :
    (s.memWrite l v).memRead m = s.memRead m := by
  cases l with
  | fbuf i =>
    cases m with
    | key j => rfl
    | fbuf k =>
      have hne : (i : Nat) ≠ k := fun e => h (by rw [Fin.ext e])
      simp [State.memRead, State.memWrite, hne]
  | key i =>
    cases m with
    | fbuf j => rfl
    | key k =>
      have hne : (i : Nat) ≠ k := fun e => h (by rw [Fin.ext e])
      simp [State.memRead, State.memWrite, hne]

end Sys2Proof.Machine
end

