-- ==== Sys2Proof/Laws/Words.lean ====
section
/-! SUPPORT. What the word-level functions do: halves of a 16-bit value, the fields of an operation word, received
words, line frames, and requests. -/

namespace Sys2Proof

open Machine

namespace Machine

/-- The two bytes of a 16-bit value give it back. -/
@[simp] theorem hiByte_append_loByte (v : Half) : hiByte v ++ loByte v = v := by
  change (BitVec.extractLsb' 8 8 v ++ BitVec.extractLsb' 0 8 v : BitVec (8 + 8)) = v
  apply BitVec.eq_of_getLsbD_eq
  intro i hi
  rw [BitVec.getLsbD_append]
  by_cases c : i < 8
  · simp [c]
  · have hlt : i - 8 < 8 := by omega
    have hadd : 8 + (i - 8) = i := by omega
    simp [c, hlt, hadd]

@[simp] theorem s16Of_hiByte_loByte (v : Half) : s16Of (hiByte v) (loByte v) = v := hiByte_append_loByte v

/-- A written bit reads back. -/
theorem getLsbD_setBit_self {n : Nat} (v : BitVec n) (i : Nat) (b : Bool) (h : i < n) :
    (setBit v i b).getLsbD i = b := by
  cases b <;> simp [setBit, h]

/-- Every other bit keeps its value. -/
theorem getLsbD_setBit_ne {n : Nat} (v : BitVec n) {i k : Nat} (b : Bool) (hk : k < n) (h : k ≠ i) :
    (setBit v i b).getLsbD k = v.getLsbD k := by
  have hone : (1#n <<< i).getLsbD k = false := by
    rw [BitVec.getLsbD_shiftLeft, BitVec.getLsbD_one]
    by_cases hki : k < i
    · simp [hki]
    · have hsub : ¬ k - i = 0 := by omega
      simp [hsub]
  cases b
  · simp only [setBit, Bool.false_eq_true, if_false, BitVec.getLsbD_and, BitVec.getLsbD_not, hone, hk, decide_true]
    simp
  · simp only [setBit, if_true, BitVec.getLsbD_or, hone]
    simp

theorem rxTag_rxWord (tag : Bool) (data : Byte) : rxTag (rxWord tag data) = tag := by revert tag data; decide

theorem rxByte_rxWord (tag : Bool) (data : Byte) : rxByte (rxWord tag data) = data := by revert tag data; decide

set_option maxRecDepth 4000 in
/-- No bit of a received word is dropped. -/
theorem rxWord_rxTag_rxByte (w : RxWord) : rxWord (rxTag w) (rxByte w) = w := by revert w; decide

theorem framePar_lineFrame (par : Bool) (data : Byte) : framePar (lineFrame par data) = par := by
  revert par data; decide

theorem frameData_lineFrame (par : Bool) (data : Byte) : frameData (lineFrame par data) = data := by
  revert par data; decide

theorem frameOk_lineFrame (par : Bool) (data : Byte) : frameOk (lineFrame par data) = true := by
  revert par data; decide

set_option maxRecDepth 20000 in
/-- No bit of a line frame with a right start and stop bit is dropped. -/
theorem lineFrame_of_frameOk (f : LineFrame) (h : frameOk f = true) : lineFrame (framePar f) (frameData f) = f := by
  revert f; decide

/-- A request built by `mkReq` passes validation, under every setting of the parameters. -/
theorem validate_mkReq (c : Config) (cmd a0 a1 a2 a3 : Byte) : validate c (mkReq c cmd a0 a1 a2 a3) = true := by
  simp [mkReq, validate, sealFrame, frameCk, ckBytes]

end Machine

/-! ### The fields of an operation word -/

theorem opSel_mkOpw (sel : BitVec 5) (d : Bool) (a b : Half) : opSel (mkOpw sel d a b) = sel := by
  apply BitVec.eq_of_getLsbD_eq
  intro i hi
  have h1 : ¬ 33 + i < 16 := by omega
  have h2 : ¬ 33 + i - 16 < 16 := by omega
  have h3 : ¬ 33 + i - 16 - 16 < 1 := by omega
  have h4 : 33 + i - 16 - 16 - 1 = i := by omega
  simp only [opSel, mkOpw, BitVec.getLsbD_extractLsb', BitVec.getLsbD_append, h1, h2, h3, h4, hi]
  simp

theorem opDev_mkOpw (sel : BitVec 5) (d : Dev) (a b : Half) : opDev (mkOpw sel (devBit d) a b) = d := by
  have h : (mkOpw sel (devBit d) a b).getLsbD 32 = devBit d := by
    simp only [mkOpw, BitVec.getLsbD_append]
    simp
  rw [opDev, h]
  cases d <;> rfl

theorem opA_mkOpw (sel : BitVec 5) (d : Bool) (a b : Half) : opA (mkOpw sel d a b) = a := by
  apply BitVec.eq_of_getLsbD_eq
  intro i hi
  have h1 : ¬ 16 + i < 16 := by omega
  have h2 : 16 + i - 16 = i := by omega
  simp only [opA, mkOpw, BitVec.getLsbD_extractLsb', BitVec.getLsbD_append, h1, h2, hi]
  simp

theorem opB_mkOpw (sel : BitVec 5) (d : Bool) (a b : Half) : opB (mkOpw sel d a b) = b := by
  apply BitVec.eq_of_getLsbD_eq
  intro i hi
  have h1 : 0 + i = i := by omega
  simp only [opB, mkOpw, BitVec.getLsbD_extractLsb', BitVec.getLsbD_append, h1, hi]
  simp

theorem loByte_fieldOfByte (b : Byte) : loByte (fieldOfByte b) = b := by revert b; decide

theorem mode_fieldOfMode (m : ModeCode) : (fieldOfMode m).extractLsb' 0 3 = m := by revert m; decide

theorem getLsbD_fieldOfBits (b0 b1 b2 b3 b4 : Bool) :
    (fieldOfBits b0 b1 b2 b3 b4).getLsbD 0 = b0 ∧ (fieldOfBits b0 b1 b2 b3 b4).getLsbD 1 = b1 ∧
      (fieldOfBits b0 b1 b2 b3 b4).getLsbD 2 = b2 ∧ (fieldOfBits b0 b1 b2 b3 b4).getLsbD 3 = b3 ∧
      (fieldOfBits b0 b1 b2 b3 b4).getLsbD 4 = b4 := by
  revert b0 b1 b2 b3 b4; decide

theorem mode3_argOfMode (m : ModeCode) : mode3 (argOfMode m) = m := by revert m; decide

theorem boolOf_argOfBool (b : Bool) : boolOf (argOfBool b) = b := by cases b <;> decide

end Sys2Proof
end

