-- ==== Sys2Proof/Laws/Units.lean ====
section
/-! SUPPORT. What a request frame, a received word and the operations on the USB side do, said once: the frame or word
does what its instruction does, and the USB side never touches the PHY instances, the frame validator, the parameters
or what is already on the trace. -/

namespace Sys2Proof.Machine

/-- `exec` of a choice between two instructions whose meanings are known. -/
theorem exec_ite {p : Prop} [Decidable p] {i j : Instr} {s a b : State} (hi : exec i s = .next a)
    (hj : exec j s = .next b) : exec (if p then i else j) s = .next (if p then a else b) := by
  split <;> assumption

/-- What `HANDLE` does with a frame is what the instruction the frame holds does. -/
theorem exec_decodeReq (s : State) (f : Frame) : exec (decodeReq s.cfg f) s = .next (s.handle f) :=
  exec_ite (exec_ite rfl (exec_ite rfl (exec_ite rfl (exec_ite rfl (exec_ite rfl (exec_ite rfl (exec_ite rfl
    (exec_ite rfl (exec_ite rfl (exec_ite rfl (exec_ite rfl rfl))))))))))) rfl

/-- What T5 and T6 do with a received word is what the instruction of its class does. -/
theorem exec_decodeRxw (s : State) (d : Dev) (w : RxWord) :
    exec (decodeRxw s.cfg d w) s = .next (s.rxDispatch d w) :=
  exec_ite rfl (exec_ite rfl rfl)

/-- A choice between two states that both have a property has it. -/
theorem ite_of {P : State → Prop} {p : Prop} [Decidable p] {a b : State} (ha : P a) (hb : P b) :
    P (if p then a else b) := by
  split <;> assumption

/-- Everything `HANDLE` can do: a property that every command's outcome has, the outcome of the frame has. -/
theorem State.handle_rec {P : State → Prop} {s : State} (f : Frame) (ping : P s.cmdPing) (rpt : P s.cmdRepeat)
    (setKbd : ∀ m, P (s.cmdSetKbd m)) (setMouse : ∀ m, P (s.cmdSetMouse m)) (setConnected : P s.cmdSetConnected)
    (clearHid : P s.cmdClearHid) (key : ∀ code pressed, P (s.cmdKey code pressed))
    (mouseAbs : ∀ x y, P (s.cmdMouseAbs x y)) (mouseBtn : ∀ sel st, P (s.cmdMouseBtn sel st))
    (mouseWheel : ∀ h v, P (s.cmdMouseWheel h v)) (mouseRel : ∀ dx dy, P (s.cmdMouseRel dx dy))
    (unknown : P s.cmdUnknown) (invalid : P s.frameInvalid) : P (s.handle f) :=
  ite_of (ite_of ping (ite_of rpt (ite_of (setKbd _) (ite_of (setMouse _) (ite_of setConnected (ite_of clearHid
    (ite_of (key _ _) (ite_of (mouseAbs _ _) (ite_of (mouseBtn _ _) (ite_of (mouseWheel _ _)
      (ite_of (mouseRel _ _) unknown))))))))))) invalid

/-- The events of a PS/2 line: its wire and the bytes delivered from it. -/
def phyEvent : Event → Bool
  | .wire _ _ _ => true
  | .ps2Rx _ _ _ => true
  | .ps2KeyEvent _ _ => false
  | .ps2MouseEvent _ _ _ => false
  | .ps2Clear => false
  | .usbSend _ _ => false
  | .usbRemoteWakeup => false
  | .respOut _ => false

/-- `t` differs from `s` at most in the two interfaces, the modes and the command state, and by events appended, none
of them of a PS/2 line. -/
structure State.UsbSide (s t : State) : Prop where
  cfg : t.cfg = s.cfg
  port : t.port = s.port
  phy0 : t.phy0 = s.phy0
  phy1 : t.phy1 = s.phy1
  fcv : t.fcv = s.fcv
  ret : t.ret = s.ret
  trace : ∃ es, t.trace = s.trace ++ es ∧ ∀ e ∈ es, phyEvent e = false
  raised : s.raised <+: t.raised

namespace State.UsbSide

theorem refl (s : State) : UsbSide s s := ⟨rfl, rfl, rfl, rfl, rfl, rfl, ⟨[], by simp⟩, List.prefix_rfl⟩

theorem trans {s t u : State} (h : UsbSide s t) (k : UsbSide t u) : UsbSide s u := by
  obtain ⟨es, h1, h2⟩ := h.trace
  obtain ⟨fs, k1, k2⟩ := k.trace
  refine ⟨k.cfg.trans h.cfg, k.port.trans h.port, k.phy0.trans h.phy0, k.phy1.trans h.phy1, k.fcv.trans h.fcv,
    k.ret.trans h.ret, ⟨es ++ fs, by rw [k1, h1, List.append_assoc], ?_⟩, h.raised.trans k.raised⟩
  intro e he
  rcases List.mem_append.1 he with he | he
  · exact h2 e he
  · exact k2 e he

theorem emit (s : State) (e : Event) (h : phyEvent e = false) : UsbSide s (s.emit e) :=
  ⟨rfl, rfl, rfl, rfl, rfl, rfl, ⟨[e], rfl, by simpa using h⟩, List.prefix_rfl⟩

theorem raise (s : State) (e : ErrEvent) : UsbSide s (s.raise e) :=
  ⟨rfl, rfl, rfl, rfl, rfl, rfl, ⟨[], by simp⟩, List.prefix_append _ _⟩

/-- Any new values of the USB side's own registers. -/
theorem registers (s : State) (out : Out) (kbd : Kbd) (mouse : Mouse) (cdr : Cdr) :
    UsbSide s { s with out := out, kbd := kbd, mouse := mouse, cdr := cdr } :=
  ⟨rfl, rfl, rfl, rfl, rfl, rfl, ⟨[], by simp⟩, List.prefix_rfl⟩

/-- The events appended, as a prefix. -/
theorem trace_prefix {s t : State} (h : UsbSide s t) : s.trace <+: t.trace := by
  obtain ⟨es, h1, -⟩ := h.trace
  exact ⟨es, h1.symm⟩

theorem respond (s : State) (new : NewStatus) : UsbSide s (s.respond new) :=
  (emit s _ rfl).trans (registers _ _ _ _ _)

theorem requestReboot (s : State) (b : Bool) : UsbSide s (s.requestReboot b) := registers s _ _ _ _

theorem hidClear (s : State) : UsbSide s s.hidClear := registers s _ _ _ _

theorem hidTick (s : State) (k m : Bool) : UsbSide s (s.hidTick k m) := registers s _ _ _ _

theorem hidKey (s : State) (code : Byte) (pressed : Bool) : UsbSide s (s.hidKey code pressed) :=
  ite_of (refl s) (ite_of (refl s) (ite_of (registers s _ _ _ _) (registers s _ _ _ _)))

theorem hidMbtn (s : State) (sel st : Byte) : UsbSide s (s.hidMbtn sel st) :=
  ite_of (registers s _ _ _ _) (refl s)

theorem hidMabs (s : State) (x y : Half) : UsbSide s (s.hidMabs x y) := ite_of (registers s _ _ _ _) (refl s)

theorem hidMrel (s : State) (dx dy : Byte) : UsbSide s (s.hidMrel dx dy) := ite_of (registers s _ _ _ _) (refl s)

theorem hidMwheel (s : State) (h v : Byte) : UsbSide s (s.hidMwheel h v) := ite_of (registers s _ _ _ _) (refl s)

theorem syncKbd (s : State) (susp ready ok : Bool) : UsbSide s (s.syncKbd susp ready ok) :=
  ite_of (ite_of (raise s _) (ite_of (ite_of ((emit s _ rfl).trans (registers _ _ _ _ _)) ((emit s _ rfl).trans (raise _ _)))
    (raise s _))) (refl s)

theorem syncMouse (s : State) (susp ready ok : Bool) : UsbSide s (s.syncMouse susp ready ok) :=
  ite_of (ite_of (raise s _) (ite_of (ite_of ((emit s _ rfl).trans (registers _ _ _ _ _)) ((emit s _ rfl).trans (raise _ _)))
    (raise s _))) (refl s)

theorem hidSync (s : State) (susp kr mr ko mo : Bool) : UsbSide s (s.hidSync susp kr mr ko mo) :=
  have h := (syncKbd s susp kr ko).trans (syncMouse _ susp mr mo)
  ite_of (h.trans (emit _ _ rfl)) h

theorem switchKbd (s : State) (m : KbdMode) : UsbSide s (s.switchKbd m) :=
  (hidClear s).trans ((emit _ _ rfl).trans (registers _ _ _ _ _))

theorem switchMouse (s : State) (m : MouseMode) : UsbSide s (s.switchMouse m) :=
  (hidClear s).trans ((emit _ _ rfl).trans (registers _ _ _ _ _))

theorem outSetKbd (s : State) (m : ModeCode) : UsbSide s (s.outSetKbd m).1 := by
  unfold State.outSetKbd
  split
  · exact switchKbd s _
  · exact raise s _

theorem outSetMouse (s : State) (m : ModeCode) : UsbSide s (s.outSetMouse m).1 := by
  unfold State.outSetMouse
  split
  · exact switchMouse s _
  · exact raise s _

theorem routeKey (s : State) (code : Byte) (pressed : Bool) : UsbSide s (s.routeKey code pressed) := by
  unfold State.routeKey
  split
  · exact hidKey s _ _
  · exact emit s _ rfl
  · exact refl s

theorem routeMouse {s usb : State} (kind : MouseKind) (a b : Half) (h : UsbSide s usb) :
    UsbSide s (s.routeMouse kind a b usb) :=
  ite_of (emit s _ rfl) h

theorem cmdSetKbd (s : State) (m : ModeCode) : UsbSide s (s.cmdSetKbd m) :=
  (outSetKbd s m).trans ((respond _ _).trans (requestReboot _ _))

theorem cmdSetMouse (s : State) (m : ModeCode) : UsbSide s (s.cmdSetMouse m) :=
  (outSetMouse s m).trans ((respond _ _).trans (requestReboot _ _))

theorem cmdKey (s : State) (code : Byte) (pressed : Bool) : UsbSide s (s.cmdKey code pressed) :=
  (routeKey s code pressed).trans (respond _ _)

theorem cmdMouseBtn (s : State) (sel st : Byte) : UsbSide s (s.cmdMouseBtn sel st) :=
  (routeMouse _ _ _ (hidMbtn s sel st)).trans (respond _ _)

theorem cmdMouseAbs (s : State) (x y : Half) : UsbSide s (s.cmdMouseAbs x y) :=
  (routeMouse _ _ _ (hidMabs s x y)).trans (respond _ _)

theorem cmdMouseRel (s : State) (dx dy : Byte) : UsbSide s (s.cmdMouseRel dx dy) :=
  (routeMouse _ _ _ (hidMrel s dx dy)).trans (respond _ _)

theorem cmdMouseWheel (s : State) (h v : Byte) : UsbSide s (s.cmdMouseWheel h v) :=
  (routeMouse _ _ _ (hidMwheel s h v)).trans (respond _ _)

theorem cmdClearHid (s : State) : UsbSide s s.cmdClearHid := (hidClear s).trans (respond _ _)

theorem cmdUnknown (s : State) : UsbSide s s.cmdUnknown := (raise s _).trans (respond _ _)

theorem frameInvalid (s : State) : UsbSide s s.frameInvalid := (raise s _).trans (respond _ _)

theorem linkTimeout (s : State) : UsbSide s s.linkTimeout :=
  (raise s _).trans ((hidClear _).trans (respond _ _))

theorem handle (s : State) (f : Frame) : UsbSide s (s.handle f) :=
  State.handle_rec f (respond s _) (respond s _) (cmdSetKbd s) (cmdSetMouse s) (respond s _) (cmdClearHid s) (cmdKey s)
    (cmdMouseAbs s) (cmdMouseBtn s) (cmdMouseWheel s) (cmdMouseRel s) (cmdUnknown s) (frameInvalid s)

end State.UsbSide

/-- `t` differs from `s` at most in the PHY instance of line `d`, in the returned value, and by events appended, of
which none but the delivered bytes of that line and its `wire` events. -/
structure State.PhySide (d : Dev) (s t : State) : Prop where
  cfg : t.cfg = s.cfg
  port : t.port = s.port
  other : ∀ e, e ≠ d → t.phy e = s.phy e
  out : t.out = s.out
  kbd : t.kbd = s.kbd
  mouse : t.mouse = s.mouse
  fcv : t.fcv = s.fcv
  cdr : t.cdr = s.cdr
  trace : ∃ es, t.trace = s.trace ++ es ∧
    ∀ e ∈ es, (∃ pulse data, e = .wire d pulse data) ∨ ∃ cur prev, e = .ps2Rx d cur prev
  raised : s.raised <+: t.raised

namespace State.PhySide

theorem refl (d : Dev) (s : State) : PhySide d s s :=
  ⟨rfl, rfl, fun _ _ => rfl, rfl, rfl, rfl, rfl, rfl, ⟨[], by simp⟩, List.prefix_rfl⟩

theorem trans {d : Dev} {s t u : State} (h : PhySide d s t) (k : PhySide d t u) : PhySide d s u := by
  obtain ⟨es, h1, h2⟩ := h.trace
  obtain ⟨fs, k1, k2⟩ := k.trace
  refine ⟨k.cfg.trans h.cfg, k.port.trans h.port, fun e he => (k.other e he).trans (h.other e he), k.out.trans h.out,
    k.kbd.trans h.kbd, k.mouse.trans h.mouse, k.fcv.trans h.fcv, k.cdr.trans h.cdr,
    ⟨es ++ fs, by rw [k1, h1, List.append_assoc], ?_⟩, h.raised.trans k.raised⟩
  intro e he
  rcases List.mem_append.1 he with he | he
  · exact h2 e he
  · exact k2 e he

theorem applyPhy (d : Dev) (s : State) (o : PhyOut)
    (h : ∀ e ∈ o.events, (∃ pulse data, e = .wire d pulse data) ∨ ∃ cur prev, e = .ps2Rx d cur prev) :
    PhySide d s (s.applyPhy d o) :=
  ⟨by simp, by simp, fun _ he => State.applyPhy_phy_ne s o he, by simp, by simp, by simp, by simp, by simp,
    ⟨o.events, by simp, h⟩, by simp⟩

theorem setPhy (d : Dev) (s : State) (p : Phy) : PhySide d s (s.setPhy d p) :=
  ⟨by simp, by simp, fun _ he => State.setPhy_phy_ne s p he, by simp, by simp, by simp, by simp, by simp,
    ⟨[], by simp⟩, by simp⟩

theorem returning (d : Dev) (s : State) (b : Bool) : PhySide d s (s.returning b) :=
  ⟨rfl, rfl, fun _ _ => rfl, rfl, rfl, rfl, rfl, rfl, ⟨[], by simp⟩, List.prefix_rfl⟩

theorem raiseIf (d : Dev) (s : State) (b : Bool) (e : ErrEvent) : PhySide d s (s.raiseIf b e) := by
  cases b
  · exact refl d s
  · exact ⟨rfl, rfl, fun _ _ => rfl, rfl, rfl, rfl, rfl, rfl, ⟨[], by simp [State.raiseIf]⟩, List.prefix_append _ _⟩

theorem enqueue (d : Dev) (s : State) (b : Byte) : PhySide d s (s.enqueue d b) :=
  ((setPhy d s { s.phy d with byteq := pushed s.cfg.byteqDepth (s.phy d).byteq b }).trans (raiseIf d _ _ _)).trans
    (returning d _ _)

theorem rxBadParity (d : Dev) (s : State) : PhySide d s (s.rxBadParity d) := applyPhy d s _ (by simp)

theorem rxResend (d : Dev) (s : State) : PhySide d s (s.rxResend d) := applyPhy d s _ (by simp)

theorem rxDeliver (d : Dev) (s : State) (b : Byte) : PhySide d s (s.rxDeliver d b) := applyPhy d s _ (by simp)

theorem rxDispatch (d : Dev) (s : State) (w : RxWord) : PhySide d s (s.rxDispatch d w) :=
  ite_of (rxBadParity d s) (ite_of (rxResend d s) (rxDeliver d s _))

theorem taskReceive (d : Dev) (s : State) : PhySide d s (s.taskReceive d) := by
  unfold State.taskReceive
  split
  · exact refl d s
  · exact (setPhy d s _).trans (rxDispatch d _ _)

end State.PhySide

end Sys2Proof.Machine
end

