-- ==== Sys2Proof/Laws/Engine.lean ====
section
/-! SUPPORT. What one engine step does, one equation for each rule of `spec/40_ps2_framer.md` section 3, and what the
machine makes of its answer. -/

namespace Sys2Proof.Machine

/-- A step of an initialised engine applies the slot's answer. -/
theorem exec_engStep {s : State} {d : Dev} {hClk hData : Bool} {o : PhyOut} (hi : (s.phy d).inited = true)
    (h : engSlot s.cfg d (s.phy d) hClk hData = some o) : exec (.engStep d hClk hData) s = .next (s.applyPhy d o) := by
  simp only [exec, execEngStep, hi, if_true, h]

/-- A step with the slot counter out of its range stops. -/
theorem exec_engStep_none {s : State} {d : Dev} {hClk hData : Bool} (hi : (s.phy d).inited = true)
    (h : engSlot s.cfg d (s.phy d) hClk hData = none) :
    exec (.engStep d hClk hData) s = .fault .engineSlotOutOfRange := by
  simp only [exec, execEngStep, hi, if_true, h]

/-- Before `PS2_INIT` a step does nothing. -/
theorem exec_engStep_uninit {s : State} {d : Dev} (hClk hData : Bool) (hi : (s.phy d).inited = false) :
    exec (.engStep d hClk hData) s = .next s := by
  simp [exec, execEngStep, hi]

theorem State.applyPhy_wire (s : State) (d : Dev) (p : Phy) (e : Event) :
    s.applyPhy d { phy := p, errs := [], events := [e] } = (s.setPhy d p).emit e := by
  cases d <;> simp [State.applyPhy, State.setPhy, State.emit]

theorem State.applyPhy_wire_raise (s : State) (d : Dev) (p : Phy) (x : ErrEvent) (e : Event) :
    s.applyPhy d { phy := p, errs := [x], events := [e] } = ((s.setPhy d p).emit e).raise x := by
  cases d <;> rfl

/-- A slot's answer always holds exactly one `wire` event of its own line. -/
theorem engSlot_events {c : Config} {d : Dev} {p : Phy} {hClk hData : Bool} {o : PhyOut}
    (h : engSlot c d p hClk hData = some o) : ∃ pulse data, o.events = [.wire d pulse data] := by
  have key : ∀ {q : Phy} {errs : List ErrEvent} {pulse data : Bool},
      some (wireOut d q errs pulse data) = some o → ∃ pulse data, o.events = [.wire d pulse data] := by
    rintro q errs pulse data ⟨⟩
    exact ⟨_, _, rfl⟩
  unfold engSlot engIdle engIdleHigh engTransmitting engReceiving at h
  repeat' split at h
  all_goals first
    | exact key h
    | cases h

/-- A step touches its own line alone. -/
theorem State.PhySide.execEngStep {d : Dev} {hClk hData : Bool} {s t : State}
    (h : exec (.engStep d hClk hData) s = .next t) : State.PhySide d s t := by
  cases hi : (s.phy d).inited
  · rw [exec_engStep_uninit hClk hData hi] at h
    cases h
    exact .refl d s
  · cases ho : engSlot s.cfg d (s.phy d) hClk hData with
    | none =>
      rw [exec_engStep_none hi ho] at h
      cases h
    | some o =>
      rw [exec_engStep hi ho] at h
      cases h
      obtain ⟨pulse, data, he⟩ := engSlot_events ho
      exact .applyPhy d s o (fun e hm => .inl ⟨pulse, data, by simpa [he] using hm⟩)

/-- Rule R155. -/
theorem engSlot_inhibited (c : Config) (d : Dev) (p : Phy) (hData : Bool) (h : p.eng.st = .idle) :
    engSlot c d p false hData = some (engInhibited d p hData) := by
  simp [engSlot, h, engIdle]

/-- Rule R156, no frame is taken. -/
theorem engSlot_idle_wait (c : Config) (d : Dev) (p : Phy) (h : p.eng.st = .idle)
    (hw : idleNext c p < c.idleHold ∨ p.txf = []) :
    engSlot c d p true true = some (wireOut d (p.countIdle c) [] false true) := by
  simp only [engSlot, h, engIdle, engIdleHigh, if_true]
  split
  · rename_i f rest hf
    rcases hw with hw | hw
    · rw [if_neg (by omega)]
    · simp [hf] at hw
  · rfl

/-- Under either reading the count does not grow when a transmission starts. -/
theorem startedCount_le (c : Config) (n : Nat) : startedCount c n ≤ n := by
  unfold startedCount
  split
  · exact Nat.zero_le n
  · exact Nat.le_refl n

/-- Rule R156, the waiting frame is taken. -/
theorem engSlot_idle_start (c : Config) (d : Dev) (p : Phy) (f : LineFrame) (rest : List LineFrame)
    (h : p.eng.st = .idle) (ht : p.txf = f :: rest) (hc : c.idleHold ≤ idleNext c p) :
    engSlot c d p true true =
      some (wireOut d (Phy.startFrame c { p.countIdle c with txf := rest } f) [] false true) := by
  simp [engSlot, h, engIdle, engIdleHigh, ht, hc]

/-- Rule R157. -/
theorem engSlot_request (c : Config) (d : Dev) (p : Phy) (h : p.eng.st = .idle) :
    engSlot c d p true false = some (engRequestToSend d p) := by
  simp [engSlot, h, engIdle]

/-- Rule R158. -/
theorem engSlot_send (c : Config) (d : Dev) (p : Phy) (hData : Bool) (h : p.eng.st = .transmitting)
    (hb : p.eng.bitn ≤ 9) : engSlot c d p true hData = some (engSendBit d p hData) := by
  simp [engSlot, h, engTransmitting, hb]

/-- Rule R159. -/
theorem engSlot_last (c : Config) (d : Dev) (p : Phy) (hData : Bool) (h : p.eng.st = .transmitting)
    (hb : p.eng.bitn = 10) : engSlot c d p true hData = some (engSendLast d p hData) := by
  simp [engSlot, h, engTransmitting, hb]

/-- Rule R160. -/
theorem engSlot_abort (c : Config) (d : Dev) (p : Phy) (hData : Bool) (h : p.eng.st = .transmitting) :
    engSlot c d p false hData = some (engAbort d p hData) := by
  simp [engSlot, h, engTransmitting]

/-- Rule R161. -/
theorem engSlot_data (c : Config) (d : Dev) (p : Phy) (hData : Bool) (h : p.eng.st = .receiving)
    (h1 : 1 ≤ p.eng.bitn) (h8 : p.eng.bitn ≤ 8) : engSlot c d p true hData = some (engRxData d p hData) := by
  have h0 : ¬ p.eng.bitn = 0 := by omega
  simp [engSlot, h, engReceiving, h0, h8]

/-- Rule R162. -/
theorem engSlot_parity (c : Config) (d : Dev) (p : Phy) (hData : Bool) (h : p.eng.st = .receiving)
    (hb : p.eng.bitn = 9) : engSlot c d p true hData = some (engRxParity d p hData) := by
  simp [engSlot, h, engReceiving, hb]

/-- Rule R163. -/
theorem engSlot_stop (c : Config) (d : Dev) (p : Phy) (hData : Bool) (h : p.eng.st = .receiving)
    (hb : p.eng.bitn = 10) : engSlot c d p true hData = some (engRxStop d p hData) := by
  simp [engSlot, h, engReceiving, hb]

/-- Rules R164, R165. -/
theorem engSlot_ack (c : Config) (d : Dev) (p : Phy) (hData : Bool) (h : p.eng.st = .receiving)
    (hb : p.eng.bitn = 11) :
    engSlot c d p true hData = some (if p.eng.rxStop then engRxDeliver c d p else engRxFrameError d p) := by
  simp [engSlot, h, engReceiving, hb]

/-- Rule R166. -/
theorem engSlot_dropped (c : Config) (d : Dev) (p : Phy) (hData : Bool) (h : p.eng.st = .receiving) :
    engSlot c d p false hData = some (engRxDropped d p hData) := by
  simp [engSlot, h, engReceiving]

end Sys2Proof.Machine
end

