-- ==== Sys2Proof/Laws/Output.lean ====
section
/-! SUPPORT. The parts of `HID_SYNC` case by case, one 1-ms sample of an interface, the report slots, and the mode
tables. -/

namespace Sys2Proof.Machine

/-! ### `HID_SYNC` -/

theorem State.kbdWants_eq_true {s : State} (h : s.out.kbdMode = .usb) (hp : s.kbd.dirty = true ∨ s.kbd.force = true) :
    s.kbdWants = true := by
  simp [State.kbdWants, h, Iface.pending, hp]

theorem State.kbdWants_eq_false {s : State}
    (h : s.out.kbdMode ≠ .usb ∨ s.kbd.dirty = false ∧ s.kbd.force = false) : s.kbdWants = false := by
  rcases h with h | ⟨h, h2⟩ <;> simp [State.kbdWants, Iface.pending, *]

theorem State.mouseWants_eq_true {s : State} (h : usbMouse s.out.mouseMode = true)
    (hp : s.mouse.dirty = true ∨ s.mouse.force = true) : s.mouseWants = true := by
  simp [State.mouseWants, h, Iface.pending, hp]

theorem State.mouseWants_eq_false {s : State}
    (h : usbMouse s.out.mouseMode = false ∨ s.mouse.dirty = false ∧ s.mouse.force = false) :
    s.mouseWants = false := by
  rcases h with h | ⟨h, h2⟩ <;> simp [State.mouseWants, Iface.pending, *]

theorem State.syncKbd_unwanted {s : State} (susp ready ok : Bool) (h : s.kbdWants = false) :
    s.syncKbd susp ready ok = s := by
  simp [State.syncKbd, h]

theorem State.syncKbd_suspended {s : State} (ready ok : Bool) (h : s.kbdWants = true) :
    s.syncKbd true ready ok = s.raise .usbSuspended := by
  simp [State.syncKbd, h]

theorem State.syncKbd_unready {s : State} (ok : Bool) (h : s.kbdWants = true) :
    s.syncKbd false false ok = s.raise .usbNotReady := by
  simp [State.syncKbd, h]

theorem State.syncKbd_failed {s : State} (h : s.kbdWants = true) :
    s.syncKbd false true false = (s.emit (.usbSend .kbd s.kbd.report)).raise .usbNotReady := by
  simp [State.syncKbd, h]

theorem State.syncKbd_sent {s : State} (h : s.kbdWants = true) :
    s.syncKbd false true true = { s with
      kbd := s.kbd.afterSend, trace := s.trace ++ [.usbSend .kbd s.kbd.report] } := by
  simp [State.syncKbd, h, State.emit]

theorem State.syncMouse_unwanted {s : State} (susp ready ok : Bool) (h : s.mouseWants = false) :
    s.syncMouse susp ready ok = s := by
  simp [State.syncMouse, h]

theorem State.syncMouse_suspended {s : State} (ready ok : Bool) (h : s.mouseWants = true) :
    s.syncMouse true ready ok = s.raise .usbSuspended := by
  simp [State.syncMouse, h]

theorem State.syncMouse_unready {s : State} (ok : Bool) (h : s.mouseWants = true) :
    s.syncMouse false false ok = s.raise .usbNotReady := by
  simp [State.syncMouse, h]

theorem State.syncMouse_failed {s : State} (h : s.mouseWants = true) :
    s.syncMouse false true false =
      (s.emit (.usbSend .mouse (mouseReport s.cfg s.out.mouseMode s.mouse))).raise .usbNotReady := by
  simp [State.syncMouse, h]

theorem State.syncMouse_sent {s : State} (h : s.mouseWants = true) :
    s.syncMouse false true true = { s with
      mouse := s.mouse.afterSend, trace := s.trace ++ [.usbSend .mouse (mouseReport s.cfg s.out.mouseMode s.mouse)] } := by
  simp [State.syncMouse, h, State.emit]

/-- The keyboard part leaves what the mouse part looks at alone. -/
theorem State.syncKbd_mouse (s : State) (susp ready ok : Bool) :
    (s.syncKbd susp ready ok).mouse = s.mouse ∧ (s.syncKbd susp ready ok).out = s.out := by
  unfold State.syncKbd
  repeat' split
  all_goals exact ⟨rfl, rfl⟩

/-- The mouse part leaves the keyboard and the modes alone. -/
theorem State.syncMouse_kbd (s : State) (susp ready ok : Bool) :
    (s.syncMouse susp ready ok).kbd = s.kbd ∧ (s.syncMouse susp ready ok).out = s.out := by
  unfold State.syncMouse
  repeat' split
  all_goals exact ⟨rfl, rfl⟩

/-- On a bus that is not suspended `HID_SYNC` is its two parts. -/
theorem State.hidSync_awake (s : State) (kr mr ko mo : Bool) :
    s.hidSync false kr mr ko mo = (s.syncKbd false kr ko).syncMouse false mr mo := by
  simp [State.hidSync, State.wantsWakeup]

/-! ### The report operations keep the modes and the command state -/

/-- `t` has the modes and the command state of `s`. -/
structure State.SameControl (s t : State) : Prop where
  out : t.out = s.out
  cdr : t.cdr = s.cdr

namespace State.SameControl

theorem refl (s : State) : SameControl s s := ⟨rfl, rfl⟩

theorem hidKey (s : State) (code : Byte) (pressed : Bool) : SameControl s (s.hidKey code pressed) :=
  ite_of (refl s) (ite_of (refl s) (ite_of ⟨rfl, rfl⟩ ⟨rfl, rfl⟩))

theorem hidMbtn (s : State) (sel st : Byte) : SameControl s (s.hidMbtn sel st) := ite_of ⟨rfl, rfl⟩ (refl s)

theorem hidMabs (s : State) (x y : Half) : SameControl s (s.hidMabs x y) := ite_of ⟨rfl, rfl⟩ (refl s)

theorem hidMrel (s : State) (dx dy : Byte) : SameControl s (s.hidMrel dx dy) := ite_of ⟨rfl, rfl⟩ (refl s)

theorem hidMwheel (s : State) (h v : Byte) : SameControl s (s.hidMwheel h v) := ite_of ⟨rfl, rfl⟩ (refl s)

theorem syncKbd (s : State) (susp ready ok : Bool) : SameControl s (s.syncKbd susp ready ok) :=
  ite_of (ite_of ⟨rfl, rfl⟩ (ite_of (ite_of ⟨rfl, rfl⟩ ⟨rfl, rfl⟩) ⟨rfl, rfl⟩)) (refl s)

theorem syncMouse (s : State) (susp ready ok : Bool) : SameControl s (s.syncMouse susp ready ok) :=
  ite_of (ite_of ⟨rfl, rfl⟩ (ite_of (ite_of ⟨rfl, rfl⟩ ⟨rfl, rfl⟩) ⟨rfl, rfl⟩)) (refl s)

theorem hidSync (s : State) (susp kr mr ko mo : Bool) : SameControl s (s.hidSync susp kr mr ko mo) :=
  have h : SameControl s ((s.syncKbd susp kr ko).syncMouse susp mr mo) :=
    ⟨(syncMouse _ susp mr mo).out.trans (syncKbd s susp kr ko).out,
      (syncMouse _ susp mr mo).cdr.trans (syncKbd s susp kr ko).cdr⟩
  ite_of ⟨h.out, h.cdr⟩ h

theorem routeKey (s : State) (code : Byte) (pressed : Bool) : SameControl s (s.routeKey code pressed) := by
  unfold State.routeKey
  split
  · exact hidKey s _ _
  · exact ⟨rfl, rfl⟩
  · exact refl s

theorem routeMouse {s usb : State} (kind : MouseKind) (a b : Half) (h : SameControl s usb) :
    SameControl s (s.routeMouse kind a b usb) :=
  ite_of ⟨rfl, rfl⟩ h

end State.SameControl

/-! ### The report slots -/

theorem findSlot_eq_none {keys : Vector Byte 6} {code : Byte} :
    findSlot keys code = none ↔ ∀ j : Fin 6, keys[j] ≠ code := by
  simp only [findSlot, slots, List.find?_eq_none, beq_iff_eq]
  constructor
  · intro h j
    fin_cases j <;> exact h _ (by simp)
  · intro h j _
    exact h j

theorem findSlot_get {keys : Vector Byte 6} {code : Byte} {j : Fin 6} (h : findSlot keys code = some j) :
    keys[j] = code := by
  simpa using List.find?_some h

/-- The search answers the lowest slot that holds the code. -/
theorem findSlot_lt {keys : Vector Byte 6} {code : Byte} {j i : Fin 6} (h : findSlot keys code = some j) (hi : i < j) :
    keys[i] ≠ code := by
  simp only [findSlot, slots, List.find?_cons, List.find?_nil] at h
  intro he
  repeat' split at h
  all_goals first
    | (cases h; done)
    | (cases h; fin_cases i <;> first | (exact absurd hi (by decide)) | simp_all)

theorem releaseSlots_get (keys : Vector Byte 6) (code : Byte) (j : Fin 6) :
    (releaseSlots keys code)[j] = if keys[j] = code then 0 else keys[j] := by
  fin_cases j <;> rfl

/-- A code outside `0xE0..0xE7` is no modifier. -/
theorem isModifier_eq_false {code : Byte} (h : code < 0xE0#8 ∨ 0xE7#8 < code) : isModifier code = false := by
  rw [Bool.eq_false_iff]
  intro hm
  simp only [isModifier, Bool.and_eq_true, decide_eq_true_eq] at hm
  rcases h with h | h <;> bv_omega

/-! ### The mode tables -/

theorem selectKbd_eq_some {c : Config} {mode : ModeCode} {m : KbdMode} :
    selectKbd c mode = some m ↔ decodeKbd c mode = some m ∧ kbdAvailable c m = true := by
  simp [selectKbd]

theorem selectMouse_eq_some {c : Config} {mode : ModeCode} {m : MouseMode} :
    selectMouse c mode = some m ↔ decodeMouse c mode = some m ∧ mouseAvailable c m = true := by
  simp [selectMouse]

end Sys2Proof.Machine
end

