-- ==== Sys2Proof/Laws/PerInstr.lean ====
section
/-! SUPPORT. The family `RowMatch`: the word the encoder writes for an instruction matches the row of
`spec/opcode_table.json` that the instruction stands for, one lemma per constructor. The masks and patterns are the
table's own numbers, and the parameters have their defaults. -/

namespace Sys2Proof.Laws

open Sys2Proof.Machine

/-- The pattern and the mask of an opcode-table row, at its format's width. -/
inductive Row where
  | opw (pattern mask : OpWord)
  | req8 (pattern mask : BitVec 64)
  | rxw (pattern mask : RxWord)
  | ps2f (pattern mask : LineFrame)

/-- A request frame as the number the table writes, byte 0 most significant. -/
def frameBits (f : Frame) : BitVec 64 := f[0] ++ f[1] ++ (f[2] ++ f[3] ++ f[4] ++ f[5] ++ f[6] ++ f[7])

/-- A word matches a row of its own format. -/
def Row.matched : Row → CodeWord → Prop
  | .opw p m, .opw w => w &&& m = p
  | .req8 p m, .req8 f => frameBits f &&& m = p
  | .rxw p m, .rxw _ w => w &&& m = p
  | .ps2f p m, .ps2f _ f => f &&& m = p
  | _, _ => False

/-- The row of an instruction. -/
def rowOf : Instr → Row
  | .ps2Init _ => .opw 0x0200000000 0x3E00000000
  | .ps2Enq _ _ => .opw 0x0400000000 0x3E00000000
  | .ps2Task _ => .opw 0x0600000000 0x3E00000000
  | .engStep _ _ _ => .opw 0x0800000000 0x3E00000000
  | .hidKey _ _ => .opw 0x1000000000 0x3E00000000
  | .hidMbtn _ _ => .opw 0x1200000000 0x3E00000000
  | .hidMabs _ _ => .opw 0x1400000000 0x3E00000000
  | .hidMrel _ _ => .opw 0x1600000000 0x3E00000000
  | .hidMwheel _ _ => .opw 0x1800000000 0x3E00000000
  | .hidClear => .opw 0x1A00000000 0x3E00000000
  | .hidTickMs _ _ => .opw 0x1C00000000 0x3E00000000
  | .hidSync _ _ _ _ _ => .opw 0x1E00000000 0x3E00000000
  | .linkByte _ => .opw 0x2000000000 0x3E00000000
  | .linkTickMs => .opw 0x2200000000 0x3E00000000
  | .outSetKbd _ => .opw 0x2400000000 0x3E00000000
  | .outSetMouse _ => .opw 0x2600000000 0x3E00000000
  | .linkResync => .opw 0x2800000000 0x3E00000000
  | .reset _ => .opw 0x3E00000000 0x3E00000000
  | .reserved00 => .opw 0x0000000000 0x3E00000000
  | .reserved05 => .opw 0x0A00000000 0x3E00000000
  | .reserved06 => .opw 0x0C00000000 0x3E00000000
  | .reserved07 => .opw 0x0E00000000 0x3E00000000
  | .reserved15 => .opw 0x2A00000000 0x3E00000000
  | .reserved16 => .opw 0x2C00000000 0x3E00000000
  | .reserved17 => .opw 0x2E00000000 0x3E00000000
  | .reserved18 => .opw 0x3000000000 0x3E00000000
  | .reserved19 => .opw 0x3200000000 0x3E00000000
  | .reserved1A => .opw 0x3400000000 0x3E00000000
  | .reserved1B => .opw 0x3600000000 0x3E00000000
  | .reserved1C => .opw 0x3800000000 0x3E00000000
  | .reserved1D => .opw 0x3A00000000 0x3E00000000
  | .reserved1E => .opw 0x3C00000000 0x3E00000000
  | .cmdPing => .req8 0x3301000000000000 0xFFFF000000000000
  | .cmdRepeat => .req8 0x3302000000000000 0xFFFF000000000000
  | .cmdSetKbd _ => .req8 0x3303000000000000 0xFFFF000000000000
  | .cmdSetMouse _ => .req8 0x3304000000000000 0xFFFF000000000000
  | .cmdSetConnected => .req8 0x3305000000000000 0xFFFF000000000000
  | .cmdClearHid => .req8 0x3310000000000000 0xFFFF000000000000
  | .cmdKey _ _ => .req8 0x3311000000000000 0xFFFF000000000000
  | .cmdMouseAbs _ _ => .req8 0x3312000000000000 0xFFFF000000000000
  | .cmdMouseBtn _ _ => .req8 0x3313000000000000 0xFFFF000000000000
  | .cmdMouseWheel _ _ => .req8 0x3314000000000000 0xFFFF000000000000
  | .cmdMouseRel _ _ => .req8 0x3315000000000000 0xFFFF000000000000
  | .cmdUnknown _ => .req8 0x3300000000000000 0xFF00000000000000
  | .frameInvalid _ => .req8 0x0000000000000000 0x0000000000000000
  | .rxBadparity _ _ _ => .rxw 0x000 0x000
  | .rxResend _ => .rxw 0x0FE 0x1FF
  | .rxData _ _ _ => .rxw 0x000 0x000
  | .ps2Frame _ _ _ => .ps2f 0x400 0x401

/-- The word of a well-formed instruction matches its row. -/
def RowMatch.Statement (i : Instr) : Prop :=
  i.wf Config.default = true → (rowOf i).matched (encode Config.default i)

/-- The upper five bits of an operation word are its selector. -/
theorem mkOpw_and_mask (sel : BitVec 5) (d : Bool) (a b : Half) :
    mkOpw sel d a b &&& 0x3E00000000#38 = sel ++ 0#33 := by
  have hm : (0x3E00000000#38 : BitVec 38) = (0x1F#5 ++ 0#33 : BitVec (5 + 33)) := by decide
  apply BitVec.eq_of_getLsbD_eq
  intro i hi
  rw [hm]
  simp only [mkOpw, BitVec.getLsbD_and, BitVec.getLsbD_append]
  by_cases h : i < 33
  · simp [h]
  · have h1 : ¬ i < 16 := by omega
    have h2 : ¬ i - 16 < 16 := by omega
    have h3 : ¬ i - 16 - 16 < 1 := by omega
    have h4 : i - 16 - 16 - 1 = i - 33 := by omega
    have h5 : i - 33 < 5 := by omega
    have h6 : ∀ k < 5, (0x1F#5).getLsbD k = true := by decide
    simp only [h, h1, h2, h3, h4, if_false, h6 _ h5, Bool.and_true]

/-- An operation word matches the row whose selector it has. -/
theorem row_of_opw (sel : BitVec 5) (d : Bool) (a b : Half) {p : OpWord} (h : sel ++ 0#33 = p) :
    (Row.opw p 0x3E00000000).matched (.opw (mkOpw sel d a b)) :=
  (mkOpw_and_mask sel d a b).trans h

/-- The upper sixteen bits of a request's number are its magic byte and its command. -/
theorem frameBits_mkReq (c : Config) (cmd a0 a1 a2 a3 : Byte) :
    frameBits (mkReq c cmd a0 a1 a2 a3) &&& 0xFFFF000000000000#64 = c.reqMagic ++ cmd ++ 0#48 := by
  have key : ∀ (x y : Byte) (r : BitVec 48),
      (x ++ y ++ r : BitVec 64) &&& 0xFFFF000000000000#64 = (x ++ y ++ 0#48 : BitVec 64) := by
    intro x y r
    have hm : (0xFFFF000000000000#64 : BitVec 64) = (0xFF#8 ++ 0xFF#8 ++ 0#48 : BitVec (8 + 8 + 48)) := by decide
    apply BitVec.eq_of_getLsbD_eq
    intro i hi
    rw [hm]
    simp only [BitVec.getLsbD_and, BitVec.getLsbD_append]
    have h6 : ∀ k < 8, (0xFF#8).getLsbD k = true := by decide
    by_cases h : i < 48
    · simp [h]
    · by_cases h1 : i - 48 < 8
      · simp only [h, h1, if_false, if_true, h6 _ h1, Bool.and_true]
      · have h2 : i - 48 - 8 < 8 := by omega
        simp only [h, h1, if_false, h6 _ h2, Bool.and_true]
  exact key c.reqMagic cmd _

/-- A request matches the row of its command. -/
theorem row_of_req (cmd a0 a1 a2 a3 : Byte) {p : BitVec 64} (h : (0x33#8 ++ cmd ++ 0#48 : BitVec 64) = p) :
    (Row.req8 p 0xFFFF000000000000).matched (.req8 (mkReq Config.default cmd a0 a1 a2 a3)) :=
  (frameBits_mkReq Config.default cmd a0 a1 a2 a3).trans h

theorem RowMatch.ps2Init (d : Dev) : RowMatch.Statement (.ps2Init d) := fun _ => row_of_opw _ _ _ _ (by decide)

theorem RowMatch.ps2Enq (d : Dev) (b : Byte) : RowMatch.Statement (.ps2Enq d b) :=
  fun _ => row_of_opw _ _ _ _ (by decide)

theorem RowMatch.ps2Task (d : Dev) : RowMatch.Statement (.ps2Task d) := fun _ => row_of_opw _ _ _ _ (by decide)

theorem RowMatch.engStep (d : Dev) (hClk : Bool) (hData : Bool) : RowMatch.Statement (.engStep d hClk hData) :=
  fun _ => row_of_opw _ _ _ _ (by decide)

theorem RowMatch.hidKey (code : Byte) (pressed : Bool) : RowMatch.Statement (.hidKey code pressed) :=
  fun _ => row_of_opw _ _ _ _ (by decide)

theorem RowMatch.hidMbtn (sel : Byte) (st : Byte) : RowMatch.Statement (.hidMbtn sel st) :=
  fun _ => row_of_opw _ _ _ _ (by decide)

theorem RowMatch.hidMabs (x : Half) (y : Half) : RowMatch.Statement (.hidMabs x y) :=
  fun _ => row_of_opw _ _ _ _ (by decide)

theorem RowMatch.hidMrel (dx : Byte) (dy : Byte) : RowMatch.Statement (.hidMrel dx dy) :=
  fun _ => row_of_opw _ _ _ _ (by decide)

theorem RowMatch.hidMwheel (h : Byte) (v : Byte) : RowMatch.Statement (.hidMwheel h v) :=
  fun _ => row_of_opw _ _ _ _ (by decide)

theorem RowMatch.hidClear : RowMatch.Statement (.hidClear) := fun _ => row_of_opw _ _ _ _ (by decide)

theorem RowMatch.hidTickMs (kbdReady : Bool) (mouseReady : Bool) : RowMatch.Statement (.hidTickMs kbdReady mouseReady) :=
  fun _ => row_of_opw _ _ _ _ (by decide)

theorem RowMatch.hidSync (susp : Bool) (kbdReady : Bool) (mouseReady : Bool) (kbdOk : Bool) (mouseOk : Bool) : RowMatch.Statement (.hidSync susp kbdReady mouseReady kbdOk mouseOk) :=
  fun _ => row_of_opw _ _ _ _ (by decide)

theorem RowMatch.linkByte (b : Byte) : RowMatch.Statement (.linkByte b) := fun _ => row_of_opw _ _ _ _ (by decide)

theorem RowMatch.linkTickMs : RowMatch.Statement (.linkTickMs) := fun _ => row_of_opw _ _ _ _ (by decide)

theorem RowMatch.outSetKbd (mode : ModeCode) : RowMatch.Statement (.outSetKbd mode) :=
  fun _ => row_of_opw _ _ _ _ (by decide)

theorem RowMatch.outSetMouse (mode : ModeCode) : RowMatch.Statement (.outSetMouse mode) :=
  fun _ => row_of_opw _ _ _ _ (by decide)

theorem RowMatch.linkResync : RowMatch.Statement (.linkResync) := fun _ => row_of_opw _ _ _ _ (by decide)

theorem RowMatch.reset (bootActive : Byte) : RowMatch.Statement (.reset bootActive) :=
  fun _ => row_of_opw _ _ _ _ (by decide)

theorem RowMatch.reserved00 : RowMatch.Statement (.reserved00) := fun _ => row_of_opw _ _ _ _ (by decide)

theorem RowMatch.reserved05 : RowMatch.Statement (.reserved05) := fun _ => row_of_opw _ _ _ _ (by decide)

theorem RowMatch.reserved06 : RowMatch.Statement (.reserved06) := fun _ => row_of_opw _ _ _ _ (by decide)

theorem RowMatch.reserved07 : RowMatch.Statement (.reserved07) := fun _ => row_of_opw _ _ _ _ (by decide)

theorem RowMatch.reserved15 : RowMatch.Statement (.reserved15) := fun _ => row_of_opw _ _ _ _ (by decide)

theorem RowMatch.reserved16 : RowMatch.Statement (.reserved16) := fun _ => row_of_opw _ _ _ _ (by decide)

theorem RowMatch.reserved17 : RowMatch.Statement (.reserved17) := fun _ => row_of_opw _ _ _ _ (by decide)

theorem RowMatch.reserved18 : RowMatch.Statement (.reserved18) := fun _ => row_of_opw _ _ _ _ (by decide)

theorem RowMatch.reserved19 : RowMatch.Statement (.reserved19) := fun _ => row_of_opw _ _ _ _ (by decide)

theorem RowMatch.reserved1A : RowMatch.Statement (.reserved1A) := fun _ => row_of_opw _ _ _ _ (by decide)

theorem RowMatch.reserved1B : RowMatch.Statement (.reserved1B) := fun _ => row_of_opw _ _ _ _ (by decide)

theorem RowMatch.reserved1C : RowMatch.Statement (.reserved1C) := fun _ => row_of_opw _ _ _ _ (by decide)

theorem RowMatch.reserved1D : RowMatch.Statement (.reserved1D) := fun _ => row_of_opw _ _ _ _ (by decide)

theorem RowMatch.reserved1E : RowMatch.Statement (.reserved1E) := fun _ => row_of_opw _ _ _ _ (by decide)

theorem RowMatch.cmdPing : RowMatch.Statement (.cmdPing) := fun _ => row_of_req _ _ _ _ _ (by decide)

theorem RowMatch.cmdRepeat : RowMatch.Statement (.cmdRepeat) := fun _ => row_of_req _ _ _ _ _ (by decide)

theorem RowMatch.cmdSetKbd (mode : ModeCode) : RowMatch.Statement (.cmdSetKbd mode) :=
  fun _ => row_of_req _ _ _ _ _ (by decide)

theorem RowMatch.cmdSetMouse (mode : ModeCode) : RowMatch.Statement (.cmdSetMouse mode) :=
  fun _ => row_of_req _ _ _ _ _ (by decide)

theorem RowMatch.cmdSetConnected : RowMatch.Statement (.cmdSetConnected) := fun _ => row_of_req _ _ _ _ _ (by decide)

theorem RowMatch.cmdClearHid : RowMatch.Statement (.cmdClearHid) := fun _ => row_of_req _ _ _ _ _ (by decide)

theorem RowMatch.cmdKey (code : Byte) (pressed : Bool) : RowMatch.Statement (.cmdKey code pressed) :=
  fun _ => row_of_req _ _ _ _ _ (by decide)

theorem RowMatch.cmdMouseAbs (x : Half) (y : Half) : RowMatch.Statement (.cmdMouseAbs x y) :=
  fun _ => row_of_req _ _ _ _ _ (by decide)

theorem RowMatch.cmdMouseBtn (sel : Byte) (st : Byte) : RowMatch.Statement (.cmdMouseBtn sel st) :=
  fun _ => row_of_req _ _ _ _ _ (by decide)

theorem RowMatch.cmdMouseWheel (h : Byte) (v : Byte) : RowMatch.Statement (.cmdMouseWheel h v) :=
  fun _ => row_of_req _ _ _ _ _ (by decide)

theorem RowMatch.cmdMouseRel (dx : Byte) (dy : Byte) : RowMatch.Statement (.cmdMouseRel dx dy) :=
  fun _ => row_of_req _ _ _ _ _ (by decide)

theorem RowMatch.cmdUnknown (cmd : Byte) : RowMatch.Statement (.cmdUnknown cmd) := by
  intro _
  have h := frameBits_mkReq Config.default cmd 0 0 0 0
  have hb := congrArg (fun v : BitVec 64 => v &&& 0xFF00000000000000#64) h
  have ha : ∀ v : BitVec 64, v &&& 0xFFFF000000000000#64 &&& 0xFF00000000000000#64 = v &&& 0xFF00000000000000#64 := by
    intro v
    rw [BitVec.and_assoc]
    rfl
  have hc : ∀ cmd : Byte, (0x33#8 ++ cmd ++ 0#48 : BitVec 64) &&& 0xFF00000000000000#64 = 0x3300000000000000#64 := by
    decide
  simp only [ha] at hb
  exact hb.trans (hc cmd)

theorem RowMatch.frameInvalid (f : Frame) : RowMatch.Statement (.frameInvalid f) := fun _ => BitVec.and_zero

theorem RowMatch.rxBadparity (d : Dev) (par : Bool) (data : Byte) : RowMatch.Statement (.rxBadparity d par data) :=
   fun _ => BitVec.and_zero

theorem RowMatch.rxResend (d : Dev) : RowMatch.Statement (.rxResend d) := fun _ => by
  show (rxWord (oddParity 0xFE) 0xFE &&& 0x1FF : RxWord) = 0x0FE
  decide

theorem RowMatch.rxData (d : Dev) (par : Bool) (data : Byte) : RowMatch.Statement (.rxData d par data) := fun _ => BitVec.and_zero

theorem RowMatch.ps2Frame (d : Dev) (par : Bool) (data : Byte) : RowMatch.Statement (.ps2Frame d par data) :=
   by
  intro _
  have h : ∀ (par : Bool) (data : Byte), lineFrame par data &&& 0x401 = 0x400 := by decide
  exact h par data

end Sys2Proof.Laws
end

