-- ==== Sys2Proof/Laws/Task.lean ====
section
/-! SUPPORT. FIFO pushes, and what the steps T1 to T6 of a poll can do. -/

namespace Sys2Proof.Machine

theorem pushed_of_lt {α : Type} {cap : Nat} {q : List α} (v : α) (h : q.length < cap) :
    pushed cap q v = q ++ [v] := if_pos h

theorem pushed_of_le {α : Type} {cap : Nat} {q : List α} (v : α) (h : cap ≤ q.length) : pushed cap q v = q :=
  if_neg (Nat.not_lt.2 h)

theorem pushOk_of_lt {α : Type} {cap : Nat} {q : List α} (h : q.length < cap) : pushOk cap q = true := by
  simpa [pushOk] using h

theorem pushOk_of_le {α : Type} {cap : Nat} {q : List α} (h : cap ≤ q.length) : pushOk cap q = false := by
  simpa [pushOk] using h

/-- A push never grows a queue past its capacity. -/
theorem pushed_length_le {α : Type} {cap : Nat} {q : List α} (v : α) (h : q.length ≤ cap) :
    (pushed cap q v).length ≤ cap := by
  unfold pushed
  split
  · simp only [List.length_append, List.length_singleton]; omega
  · exact h

/-- Every element after a push was there or is the new one. -/
theorem mem_pushed {α : Type} {cap : Nat} {q : List α} {v x : α} (h : x ∈ pushed cap q v) : x ∈ q ∨ x = v := by
  unfold pushed at h
  split at h
  · simpa using h
  · exact .inl h

theorem State.applyPhy_quiet (s : State) (d : Dev) (p : Phy) :
    s.applyPhy d { phy := p, errs := [], events := [] } = s.setPhy d p := by
  cases d <;> simp [State.applyPhy, State.setPhy]

theorem State.applyPhy_raise (s : State) (d : Dev) (p : Phy) (x : ErrEvent) :
    s.applyPhy d { phy := p, errs := [x], events := [] } = (s.setPhy d p).raise x := by
  cases d <;> simp [State.applyPhy, State.setPhy, State.raise]

/-- T1 to T4 emit nothing and touch neither the receive FIFO nor the last received byte. -/
theorem taskHead_keeps (c : Config) (d : Dev) (p : Phy) :
    (taskHead c d p).phy.rxf = p.rxf ∧ (taskHead c d p).phy.lastRx = p.lastRx ∧ (taskHead c d p).events = [] := by
  refine ⟨?_, ?_, rfl⟩
  all_goals
    simp only [taskHead, taskNak, taskRecover, taskTransmit, taskPacketise, Phy.pushTx]
    repeat' split
    all_goals rfl

/-- A poll with no received word is T1 to T4 alone. -/
theorem exec_ps2Task_empty {s : State} {d : Dev} {o : PhyOut} (hi : (s.phy d).inited = true)
    (ho : taskHead s.cfg d (s.phy d) = o) (hr : (s.phy d).rxf = []) :
    exec (.ps2Task d) s = .next (s.applyPhy d o) := by
  subst ho
  simp only [exec, execPs2Task, hi, if_true, State.taskReceive, State.applyPhy_phy_self]
  rw [(taskHead_keeps s.cfg d (s.phy d)).1, hr]

/-- A poll with a received word is T1 to T4 and then what the word's class does. -/
theorem exec_ps2Task_cons {s : State} {d : Dev} {w : RxWord} {rest : List RxWord} (hi : (s.phy d).inited = true)
    (hr : (s.phy d).rxf = w :: rest) :
    exec (.ps2Task d) s =
      .next (((s.applyPhy d (taskHead s.cfg d (s.phy d))).setPhy d
        { (taskHead s.cfg d (s.phy d)).phy with rxf := rest }).rxDispatch d w) := by
  simp only [exec, execPs2Task, hi, if_true, State.taskReceive, State.applyPhy_phy_self]
  rw [(taskHead_keeps s.cfg d (s.phy d)).1, hr]

/-- A poll touches its own line alone. -/
theorem State.PhySide.execPs2Task {d : Dev} {s t : State} (h : exec (.ps2Task d) s = .next t) :
    State.PhySide d s t := by
  have hk := taskHead_keeps s.cfg d (s.phy d)
  simp only [exec, Machine.execPs2Task] at h
  split at h
  · cases h
    exact (applyPhy d s _ (by simp [hk])).trans (taskReceive d _)
  · cases h
    exact refl d s

/-- A shut gate leaves T2 without effect. -/
theorem taskTransmit_of_gate {c : Config} {p : Phy} (h : taskGate c p = false) : taskTransmit c p = p := by
  unfold taskTransmit
  split <;> simp [h]

end Sys2Proof.Machine
end

