-- ==== Sys2Proof/Tests/Slice0.lean ====
section
/-! SUPPORT. The tests: the well-formedness smoke, one word per constructor written out from the spec's encodings
(vectors VW1, VW2, VQ1, VQ2, VF2 of `spec/95_test_vectors.md` and the opcode table), single steps with expected results
from the spec's vectors, and for every statement with hypotheses a witness that meets them. -/

namespace Sys2Proof.Tests

set_option maxRecDepth 100000

open Sys2Proof Sys2Proof.Machine

/-! ### Helpers -/

/-- A field of the next state, or none where the machine stops. -/
def after {α : Type} (f : State → α) : Host.Outcome State Fault Refusal → Option α
  | .next t => some (f t)
  | .fault _ => none
  | .refused _ => none

/-- The block after `RESET(m)`. -/
def booted (m : Byte) : State := State.resetWith Config.default m

/-- An initialised instance with an idle engine and a bus held long enough. -/
def idlePhy : Phy := { Phy.initialised with eng := { Eng.reset with idleCnt := 5 } }

/-- The block with the instance `p` on the keyboard line. -/
def withPhy (p : Phy) : State := { booted 0x09 with phy0 := p }

/-- An instance in `TRANSMITTING` with the frame of `FA`, bit `n` next. -/
def sending (n : Nat) : Phy :=
  { idlePhy with eng := { Eng.reset with st := .transmitting, bitn := n, txSh := 0x7F4 } }

/-- An instance in `RECEIVING`, slot `n` next, the byte `ED` and its parity bit in, stop bit as given. -/
def receiving (n : Nat) (stop : Bool) : Phy :=
  { idlePhy with
    eng := { Eng.reset with st := .receiving, bitn := n, rxSh := 0xED, rxPar := true, rxStop := stop } }

/-- A block whose keyboard and mouse interfaces have the given flags. -/
def pendingState (mode : MouseMode) (kd kf md mf : Bool) : State :=
  { booted 0x09 with
    out := { kbdMode := .usb, mouseMode := mode }
    kbd := { Kbd.reset with dirty := kd, force := kf }
    mouse := { Mouse.reset with dirty := md, force := mf } }

/-- A block with the given slots. -/
def holding (keys : Vector Byte 6) : State := { booted 0x09 with kbd := { Kbd.reset with keys := keys } }

/-- The ping frame of vector VQ1. -/
def pingFrame : Frame := #v[0x33, 0x01, 0, 0, 0, 0, 0x18, 0x38]

/-! ### Well-formedness: each check refuses an ill-formed term and lets a well-formed one through -/

theorem test_wf_unknown_refuses_a_known_code : Instr.wf Config.default (.cmdUnknown 0x01) = false := by decide

theorem test_wf_unknown : Instr.wf Config.default (.cmdUnknown 0x06) = true := by decide

theorem test_wf_invalid_refuses_a_valid_frame : Instr.wf Config.default (.frameInvalid pingFrame) = false := by decide

theorem test_wf_invalid :
    Instr.wf Config.default (.frameInvalid #v[0x33, 0x01, 0, 0, 0, 0, 0x18, 0x39]) = true := by decide

theorem test_wf_badparity_refuses_good_parity :
    Instr.wf Config.default (.rxBadparity .line0 true 0xED) = false := by decide

theorem test_wf_badparity : Instr.wf Config.default (.rxBadparity .line0 false 0xED) = true := by decide

theorem test_wf_data_refuses_bad_parity : Instr.wf Config.default (.rxData .line0 false 0xED) = false := by decide

theorem test_wf_data_refuses_the_resend_byte : Instr.wf Config.default (.rxData .line0 false 0xFE) = false := by decide

theorem test_wf_data : Instr.wf Config.default (.rxData .line0 true 0xED) = true := by decide

theorem test_wf_frame_refuses_bad_parity : Instr.wf Config.default (.ps2Frame .line0 false 0xFA) = false := by decide

theorem test_wf_frame : Instr.wf Config.default (.ps2Frame .line0 true 0xFA) = true := by decide

/-! ### Decoding: words written out from the spec's encodings -/

theorem test_decode_ps2Init : decodeTableWord 40 0x0300000000 = some (.ps2Init .line1) := by decide

theorem test_decode_ps2Enq : decodeTableWord 40 0x0400FA0000 = some (.ps2Enq .line0 0xFA) := by decide

theorem test_decode_ps2Task : decodeTableWord 40 0x0700000000 = some (.ps2Task .line1) := by decide

theorem test_decode_engStep_data : decodeTableWord 40 0x0800020000 = some (.engStep .line0 false true) := by decide

theorem test_decode_engStep_clock : decodeTableWord 40 0x0900010000 = some (.engStep .line1 true false) := by decide

theorem test_decode_hidKey : decodeTableWord 40 0x1000E10001 = some (.hidKey 0xE1 true) := by decide

theorem test_decode_hidMbtn : decodeTableWord 40 0x1200020001 = some (.hidMbtn 0x02 0x01) := by decide

theorem test_decode_hidMabs : decodeTableWord 40 0x1480007FFF = some (.hidMabs 0x8000 0x7FFF) := by decide

theorem test_decode_hidMrel : decodeTableWord 40 0x16000500FD = some (.hidMrel 5 0xFD) := by decide

theorem test_decode_hidMwheel : decodeTableWord 40 0x18000000FF = some (.hidMwheel 0 0xFF) := by decide

theorem test_decode_hidClear : decodeTableWord 40 0x1A00000000 = some .hidClear := by decide

theorem test_decode_hidTickMs : decodeTableWord 40 0x1C00010000 = some (.hidTickMs true false) := by decide

theorem test_decode_hidSync : decodeTableWord 40 0x1E000A0000 = some (.hidSync false true false true false) := by decide

theorem test_decode_hidSync_ends : decodeTableWord 40 0x1E00110000 = some (.hidSync true false false false true) := by
  decide

theorem test_decode_linkByte : decodeTableWord 40 0x2000330000 = some (.linkByte 0x33) := by decide

theorem test_decode_linkTickMs : decodeTableWord 40 0x2200000000 = some .linkTickMs := by decide

theorem test_decode_outSetKbd : decodeTableWord 40 0x2400030000 = some (.outSetKbd 3) := by decide

theorem test_decode_outSetMouse : decodeTableWord 40 0x2600020000 = some (.outSetMouse 2) := by decide

theorem test_decode_linkResync : decodeTableWord 40 0x2800000000 = some .linkResync := by decide

theorem test_decode_reset : decodeTableWord 40 0x3E001B0000 = some (.reset 0x1B) := by decide

theorem test_decode_reserved :
    [0x0000000000, 0x0A00000000, 0x0C00000000, 0x0E00000000, 0x2A00000000, 0x2C00000000, 0x2E00000000].map
        (decodeTableWord 40) =
      [some .reserved00, some .reserved05, some .reserved06, some .reserved07, some .reserved15, some .reserved16,
        some .reserved17] := by decide

theorem test_decode_reserved_upper :
    [0x3000000000, 0x3200000000, 0x3400000000, 0x3600000000, 0x3800000000, 0x3A00000000, 0x3C00000000].map
        (decodeTableWord 40) =
      [some .reserved18, some .reserved19, some .reserved1A, some .reserved1B, some .reserved1C, some .reserved1D,
        some .reserved1E] := by decide

/-- Unused bits of an operation word are ignored (rule R130): the device bit and both fields of `HID_CLEAR`. -/
theorem test_decode_ignores_unused_bits : decodeTableWord 40 0x1BFFFFFFFF = some .hidClear := by decide

theorem test_decode_cmdPing : decodeTableWord 64 0x3301000000001838 = some .cmdPing := by decide

theorem test_decode_cmdRepeat : decodeTableWord 64 0x330200000000187C = some .cmdRepeat := by decide

theorem test_decode_cmdSetKbd : decodeTableWord 64 0x3303030000009C41 = some (.cmdSetKbd 3) := by decide

theorem test_decode_cmdSetMouse : decodeTableWord 64 0x330402000000A0F5 = some (.cmdSetMouse 2) := by decide

theorem test_decode_cmdSetConnected : decodeTableWord 64 0x33050100000024C8 = some .cmdSetConnected := by decide

theorem test_decode_cmdClearHid : decodeTableWord 64 0x3310000000001BC4 = some .cmdClearHid := by decide

theorem test_decode_cmdKey : decodeTableWord 64 0x3311040100002BA9 = some (.cmdKey 0x04 true) := by decide

theorem test_decode_cmdMouseAbs : decodeTableWord 64 0x331280007FFF6BF4 = some (.cmdMouseAbs 0x8000 0x7FFF) := by
  decide

theorem test_decode_cmdMouseBtn : decodeTableWord 64 0x331301000000E781 = some (.cmdMouseBtn 0x01 0x00) := by decide

theorem test_decode_cmdMouseWheel : decodeTableWord 64 0x331400FF0000EB05 = some (.cmdMouseWheel 0x00 0xFF) := by
  decide

theorem test_decode_cmdMouseRel : decodeTableWord 64 0x331505FD00002799 = some (.cmdMouseRel 0x05 0xFD) := by decide

theorem test_decode_cmdUnknown : decodeTableWord 64 0x337F000000001210 = some (.cmdUnknown 0x7F) := by decide

theorem test_decode_frameInvalid :
    decodeTableWord 64 0x3301000000001839 = some (.frameInvalid #v[0x33, 0x01, 0, 0, 0, 0, 0x18, 0x39]) := by decide

/-- A right checksum does not save a wrong magic byte (vector VC2). -/
theorem test_decode_wrong_magic :
    decodeTableWord 64 0x340100000000AF39 = some (.frameInvalid #v[0x34, 0x01, 0, 0, 0, 0, 0xAF, 0x39]) := by decide

theorem test_decode_rxBadparity : decodeTableWord 16 0x0ED = some (.rxBadparity .line0 false 0xED) := by decide

theorem test_decode_rxResend : decodeTableWord 16 0x0FE = some (.rxResend .line0) := by decide

theorem test_decode_rxData : decodeTableWord 16 0x1ED = some (.rxData .line0 true 0xED) := by decide

theorem test_decode_ps2Frame : decodeTableWord 16 0x556 = some (.ps2Frame .line0 false 0xAB) := by decide

/-- A line frame with a stop bit of 0, or with a start bit of 1, is no row of the table. -/
theorem test_decode_not_a_line_frame :
    decode Config.default (.ps2f .line0 0x1F4) = .error .notALineFrame ∧
      decode Config.default (.ps2f .line0 0x7F5) = .error .notALineFrame := by decide

theorem test_decode_no_such_format :
    decodeBytes Config.default [0x40, 0, 0, 0, 0] = .error .noSuchFormat ∧
      decodeBytes Config.default [0x08, 0x00] = .error .noSuchFormat ∧
      decodeBytes Config.default [0x33] = .error .noSuchFormat := by decide

/-- The encoder writes the words of vectors VW1 and VQ1. -/
theorem test_encode :
    encode Config.default (.hidMrel 5 0xFD) = .opw 0x16000500FD ∧
      encode Config.default (.engStep .line1 true false) = .opw 0x0900010000 ∧
      encode Config.default .cmdPing = .req8 pingFrame ∧
      encode Config.default (.ps2Frame .line0 true 0xFA) = .ps2f .line0 0x7F4 := by decide

/-! ### The frame and the scaled position (vectors VF2, VU1, VH5b) -/

theorem test_frames : [0xFA, 0xFE, 0x00, 0xAB, 0xED].map ps2Frame = [0x7F4, 0x5FC, 0x600, 0x556, 0x7DA] := by decide

theorem test_scaleAbs :
    [0x8000, 0x8001, 0xFFFE, 0xFFFF, 0, 1, 2, 0x7FFE, 0x7FFF].map (scaleAbs Config.default) =
      [0, 0, 0x3FFF, 0x3FFF, 0x4000, 0x4000, 0x4001, 0x7FFF, 0x7FFF] := by decide

/-! ### Single steps, expected results from the spec's vectors -/

/-- Vector VK15: `PS2_INIT` in the middle of a frame. -/
theorem test_init_cuts_a_frame_off :
    after State.phy0 (exec (.ps2Init .line0) (withPhy (sending 4))) = some Phy.initialised := by decide

/-- Vector VK6: the tenth byte is dropped. -/
theorem test_enq_full :
    after (fun t => (t.ret, t.raised, t.phy0.byteq.length))
        (exec (.ps2Enq .line0 0x0A) (withPhy { idlePhy with byteq := [1, 2, 3, 4, 5, 6, 7, 8, 9] })) =
      some (some false, [.byteQueueFull .line0], 9) := by decide

/-- Vector VK1: a poll packetises and hands the first byte over. -/
theorem test_task_first_byte :
    after (fun t => (t.phy0.packq, t.phy0.sent, t.phy0.lastTx, t.phy0.txf))
        (exec (.ps2Task .line0) (withPhy { idlePhy with byteq := [0xAB, 0x83] })) =
      some ([⟨[0xAB, 0x83]⟩], 1, 0xAB, [0x556]) := by decide

/-- Vector VE7: the poll right after a receive frame error answers with the frame of `FE`. -/
theorem test_task_nak :
    after (fun t => (t.phy0.txf, t.phy0.rxFerr))
        (exec (.ps2Task .line0) (withPhy { idlePhy with eng := Eng.reset, rxFerr := true })) =
      some ([0x5FC], false) := by decide

/-- Vector VK12: after an abort the packet stays and is rewound. -/
theorem test_task_rewinds :
    after (fun t => (t.phy0.packq, t.phy0.sent, t.phy0.err, t.phy0.txf))
        (exec (.ps2Task .line0) (withPhy { idlePhy with packq := [⟨[0xFA]⟩], sent := 1, err := true })) =
      some ([⟨[0xFA]⟩], 0, false, []) := by decide

/-- Rule R168: on leaving `IDLE` to transmit the idle count becomes 0; by the other reading (the example of R156,
vector VE3, step 5) it stays 5. -/
theorem test_eng_start :
    let p : Phy := { idlePhy with txf := [0x7F4], eng := { Eng.reset with idleCnt := 4 } }
    after (fun t => (t.phy0.eng.st, t.phy0.eng.idleCnt)) (exec (.engStep .line0 true true) (withPhy p)) =
        some (.transmitting, 0) ∧
      after (fun t => (t.phy0.eng.st, t.phy0.eng.idleCnt)) (exec (.engStep .line0 true true)
        { withPhy p with
          cfg := { Config.default with reading := { Config.defaultReading with startZeroesIdle := false } } }) =
        some (.transmitting, 5) := by decide

/-- Vector VE4: the host aborts a transmission. -/
theorem test_eng_abort :
    after (fun t => (t.phy0.eng.st, t.phy0.err, t.raised, t.trace))
        (exec (.engStep .line0 false true) (withPhy (sending 4))) =
      some (.idle, true, [.txAbort .line0], [.wire .line0 false true]) := by decide

/-- Vector VE11: the line is the AND of both drivers. -/
theorem test_eng_wired_and :
    after (fun t => (t.phy0.eng.bitn, t.trace))
        (exec (.engStep .line0 true false)
          (withPhy { idlePhy with eng := { Eng.reset with st := .transmitting, bitn := 1, txSh := 0x7FE } })) =
      some (2, [.wire .line0 true false]) := by decide

/-- Vector VH1, step 3: the seventh key overwrites slot 0. -/
theorem test_key_overflow :
    after (fun t => (t.kbd.keys, t.kbd.dirty)) (exec (.hidKey 0x0A true) (holding #v[4, 5, 6, 7, 8, 9])) =
      some (#v[0x0A, 5, 6, 7, 8, 9], true) := by decide

/-- Vector VH1, step 6: the lowest free slot. -/
theorem test_key_lowest_free_slot :
    after (fun t => t.kbd.keys) (exec (.hidKey 0x0B true) (holding #v[0x0A, 5, 0, 7, 0, 9])) =
      some #v[0x0A, 5, 0x0B, 7, 0, 9] := by decide

/-- Vector VH4: bits 7..5 of the selection are masked off. -/
theorem test_mbtn_masks : after (fun t => t.mouse.buttons) (exec (.hidMbtn 0xFF 0xFF) (booted 0x09)) = some 0x1F := by
  decide

/-- Vector VH5: no change, no `dirty`. -/
theorem test_mabs_no_change : after (fun t => t.mouse.dirty) (exec (.hidMabs 0 0) (booted 0x09)) = some false := by decide

/-- Vector VH5: a relative move is ignored in absolute mode. -/
theorem test_mrel_ignored : after (fun t => t.mouse) (exec (.hidMrel 5 0xFD) (booted 0x09)) = some Mouse.reset := by
  decide

/-- Vector VH6: the horizontal wheel is dropped. -/
theorem test_mwheel : after (fun t => t.mouse.wheel) (exec (.hidMwheel 7 0xFF) (booted 0x11)) = some 0xFF := by decide

/-- Vector VS4: `HID_CLEAR` makes both interfaces dirty. -/
theorem test_clear : after (fun t => (t.kbd.dirty, t.mouse.dirty)) (exec .hidClear (booted 0x1B)) = some (true, true) := by
  decide

/-- Vector VO2: the 50th not-ready sample takes the mouse offline. -/
theorem test_tick_offline :
    after (fun t => (t.mouse.online, t.mouse.unreadyMs))
        (exec (.hidTickMs true false)
          { booted 0x09 with mouse := { Mouse.reset with online := true, unreadyMs := 49 } }) =
      some (false, 0) := by decide

/-- Vector VS4: both reports, keyboard first; the centre position is sent `00 40`. -/
theorem test_sync_reports :
    after State.trace (exec (.hidSync false true true true true) (pendingState .usbAbs true false true false)) =
      some [.usbSend .kbd [0, 0, 0, 0, 0, 0, 0, 0], .usbSend .mouse [0, 0x00, 0x40, 0x00, 0x40, 0, 0]] := by decide

/-- Vector VS2: one wakeup, not two. -/
theorem test_sync_suspended :
    after State.trace (exec (.hidSync true true true true true) (pendingState .usbAbs true false true false)) =
      some [.usbRemoteWakeup] := by decide

/-- Vectors VQ1, VL1: the eighth byte of a ping runs it; both interfaces are offline. -/
theorem test_linkByte_ping :
    after (fun t => (t.fcv.fidx, t.trace))
        (exec (.linkByte 0x38)
          { booted 0x09 with fcv := { fbuf := #v[0x33, 1, 0, 0, 0, 0, 0x18, 0], fidx := 7, silentMs := 3 } }) =
      some (0, [.respOut #v[0x34, 0x98, 0x09, 0x03, 0, 0, 0x2F, 0xD6]]) := by decide

/-- Vector VL2: the 100th tick of silence. -/
theorem test_linkTick_timeout :
    after (fun t => (t.fcv.fidx, t.trace))
        (exec .linkTickMs { booted 0x09 with fcv := { Fcv.reset with fidx := 5, silentMs := 99 } }) =
      some (0, [.respOut #v[0x34, 0x48, 0x09, 0x03, 0, 0, 0xFD, 0x17]]) := by decide

/-- Rule R272 under a `LINK_TIMEOUT_MS` of 0: the first tick of silence is the timeout. -/
theorem test_linkTick_zero_window :
    after (fun t => (t.fcv.fidx, t.raised))
        (exec .linkTickMs
          { booted 0x09 with cfg := { Config.default with linkTimeoutMs := 0 }, fcv := { Fcv.reset with fidx := 5 } }) =
      some (0, [.linkTimeout]) := by decide

/-- Rule R6: under another layout the mask byte moves its fields, and a boot mask is read by them. -/
theorem test_mask_layout :
    let c : Config := { Config.default with layout := { kbdLo := 5, mouseLo := 2 } }
    modeMask c .ps2 .usbRel = 0x68 ∧ bootKbd c 0x68 = .ps2 ∧ bootMouse c 0x68 = .usbRel := by decide

/-- Vector VO1: an unavailable mouse mode. -/
theorem test_outSetMouse_unavailable :
    after (fun t => (t.ret, t.out.mouseMode, t.trace)) (exec (.outSetMouse 4) (booted 0x09)) =
      some (some false, .usbAbs, []) := by decide

/-- Vector VO1: a keyboard switch. -/
theorem test_outSetKbd :
    after (fun t => (t.ret, t.out.kbdMode, t.trace, t.kbd.dirty)) (exec (.outSetKbd 3) (booted 0x09)) =
      some (some true, .ps2, [.ps2Clear], true) := by decide

/-- Vector VL3: no response to a resynchronisation. -/
theorem test_resync :
    after (fun t => (t.fcv.fidx, t.trace, t.cdr.prevStatus))
        (exec .linkResync { booted 0x09 with fcv := { Fcv.reset with fidx := 3 } }) =
      some (0, [], 0x24) := by decide

/-- Vector VZ1: the modes after a reset. -/
theorem test_reset_modes :
    ([0x09, 0x0B, 0x1B, 0x21, 0x02, 0xC9, 0x3F, 0x00] : List Byte).map
        (fun m => after (fun t => (t.out.kbdMode, t.out.mouseMode)) (exec (.reset m) (booted 0x09))) =
      [some (.usb, .usbAbs), some (.ps2, .usbAbs), some (.ps2, .ps2), some (.usb, .none), some (.none, .none),
        some (.usb, .usbAbs), some (.none, .none), some (.none, .none)] := by decide

/-- Vector VL10: the response to a mode command does not yet show the reboot request. -/
theorem test_setMouse :
    after (fun t => (t.cdr.rebootReq, t.trace))
        (exec (.cmdSetMouse 2)
          { booted 0x09 with kbd := { Kbd.reset with online := true }, mouse := { Mouse.reset with online := true } }) =
      some (true, [.ps2Clear, .respOut #v[0x34, 0x80, 0x11, 0x03, 0, 0, 0x8D, 0xF0]]) := by decide

/-- Vector VL11: an undefined mode is still answered OK. -/
theorem test_setKbd_undefined :
    after (fun t => (t.cdr.rebootReq, t.trace))
        (exec (.cmdSetKbd 2)
          { booted 0x09 with kbd := { Kbd.reset with online := true }, mouse := { Mouse.reset with online := true } }) =
      some (false, [.respOut #v[0x34, 0x80, 0x09, 0x03, 0, 0, 0x2D, 0xF6]]) := by decide

/-- Vector VL15: a repeat before any status exists. -/
theorem test_repeat :
    after State.trace (exec .cmdRepeat (booted 0x0B)) =
      some [.respOut #v[0x34, 0x24, 0x0B, 0x03, 0, 0, 0x4C, 0x86]] := by decide

/-- Vector VL8: events in the PS/2 modes; the relative move's second operand is sign-extended. -/
theorem test_route_key :
    after State.trace (exec (.cmdKey 0x1C true) (booted 0x1B)) =
      some [.ps2KeyEvent 0x1C true, .respOut #v[0x34, 0x80, 0x1B, 0x03, 0, 0, 0x55, 0xF3]] := by decide

theorem test_route_rel :
    after State.trace (exec (.cmdMouseRel 5 0xFD) (booted 0x1B)) =
      some [.ps2MouseEvent .rel 5 0xFFFD, .respOut #v[0x34, 0x80, 0x1B, 0x03, 0, 0, 0x55, 0xF3]] := by decide

theorem test_route_btn :
    after State.trace (exec (.cmdMouseBtn 1 1) (booted 0x1B)) =
      some [.ps2MouseEvent .btn 1 1, .respOut #v[0x34, 0x80, 0x1B, 0x03, 0, 0, 0x55, 0xF3]] := by decide

/-- Entry U14: bits 7..5 of a button operand have no effect in the PS/2 mouse mode; by the other reading (R299) they are
forwarded. -/
theorem test_route_btn_upper_bits :
    (after State.trace (exec (.cmdMouseBtn 0xE1 0xFF) (booted 0x1B))).bind List.head? =
        some (.ps2MouseEvent .btn 1 0x1F) ∧
      (after State.trace (exec (.cmdMouseBtn 0xE1 0xFF)
        { booted 0x1B with
          cfg := { Config.default with reading := { Config.defaultReading with wholeButtons := true } } })).bind
            List.head? = some (.ps2MouseEvent .btn 0xE1 0xFF) := by decide

/-- Vector VQ2: an unknown command. -/
theorem test_unknown :
    after (fun t => (t.trace, t.cdr.prevStatus)) (exec (.cmdUnknown 0x06) (booted 0x09)) =
      some ([.respOut #v[0x34, 0x45, 0x09, 0x03, 0, 0, 0x3C, 0x3A]], 0x45) := by decide

/-- Vector VL12: a frame whose last checksum bit is flipped. -/
theorem test_invalid :
    after (fun t => (t.trace, t.out.kbdMode))
        (exec (.frameInvalid #v[0x33, 3, 3, 0, 0, 0, 0x9C, 0x40]) (booted 0x09)) =
      some ([.respOut #v[0x34, 0x40, 0x09, 0x03, 0, 0, 0x3C, 0xF6]], .usb) := by decide

/-- Vector VE6: a bad parity is answered by the frame of `FE`. -/
theorem test_badparity :
    after (fun t => (t.phy0.txf, t.phy0.lastRx, t.raised)) (exec (.rxBadparity .line0 false 0xED) (withPhy idlePhy)) =
      some ([0x5FC], 0, [.rxParityError .line0]) := by decide

/-- Vector VK4: a resend request with nothing ever sent. -/
theorem test_resend :
    after (fun t => t.phy0.txf) (exec (.rxResend .line0) (withPhy idlePhy)) = some [0x600] := by decide

/-- Vector VK5: a host byte flushes the pending output. -/
theorem test_data :
    after (fun t => (t.phy0.byteq, t.phy0.packq, t.phy0.sent, t.phy0.lastRx, t.trace))
        (exec (.rxData .line0 false 0xF4)
          (withPhy { idlePhy with byteq := [0x11], packq := [⟨[0xAB, 0x83]⟩], sent := 1, lastTx := 0xAB })) =
      some ([], [], 0, 0xF4, [.ps2Rx .line0 0xF4 0]) := by decide

/-- Vector VE3: the engine holds the frame, its start bit next. -/
theorem test_ps2Frame :
    after (fun t => (t.phy0.eng.st, t.phy0.eng.txSh, t.phy0.eng.bitn))
        (exec (.ps2Frame .line0 true 0xFA) (withPhy idlePhy)) =
      some (.transmitting, 0x7F4, 0) := by decide

/-- The words the host places run as the very next step: an operation word, a line frame, a received word, a frame. -/
theorem test_withFetchWord :
    after (fun t => t.mouse.buttons) (step (State.reset.withFetchWord 40 0x1200010001)) = some 1 ∧
      after (fun t => t.phy0.eng.txSh) (step (State.reset.withFetchWord 16 0x7F4)) = some 0x7F4 ∧
      after (fun t => t.phy0.lastRx) (step (State.reset.withFetchWord 16 0x1ED)) = some 0xED ∧
      after (fun t => t.kbd.keys) (step (State.reset.withFetchWord 64 0x3311040100002BA9)) =
        some #v[4, 0, 0, 0, 0, 0] := by decide

/-! ### Witnesses: for every statement with hypotheses, a state and operands that meet them together, clause by clause
at the ends of each range -/

/-- A frame nothing encodes to a command. -/
def badFrame : Frame := #v[0x33, 3, 3, 0, 0, 0, 0x9C, 0x40]

/-- An instance with an idle bus, `n` bytes waiting and nothing else to do. -/
def queued (n : Nat) : Phy := { idlePhy with byteq := List.replicate n 0x1C }

/-- The same with a frame in flight. -/
def busyQueued (n m : Nat) : Phy :=
  { sending 4 with byteq := List.replicate n 0x1C, packq := List.replicate m ⟨[0xFA]⟩ }

/-- An instance holding one packet of two bytes, `n` of them sent. -/
def packetised (n : Nat) : Phy := { idlePhy with packq := [⟨[0xAB, 0x83]⟩], sent := n }

/-- The block with a link index and a silence count. -/
def linkAt (i : Fin 8) (ms : Nat) : State := { booted 0x09 with fcv := { Fcv.reset with fidx := i, silentMs := ms } }

theorem witness_config_wf : Config.default.Wf := by decide

theorem witness_DecodeOfEncodeIsTheInstruction :
    Config.default.Wf ∧ (Instr.cmdSetKbd 7).wf Config.default = true ∧
      (Instr.frameInvalid badFrame).wf Config.default = true ∧
      (Instr.rxData .line1 false 0x07).wf Config.default = true ∧
      (Instr.ps2Frame .line1 true 0xFF).wf Config.default = true := by decide

/-- Each selector of the table occurs with every other bit set, or clear. -/
theorem witness_DecodedInstructionsAreWellFormed :
    ∀ sel ∈ [0x01#5, 0x02, 0x03, 0x04, 0x08, 0x09, 0x0A, 0x0B, 0x0C, 0x0D, 0x0E, 0x0F, 0x10, 0x11, 0x12, 0x13, 0x14,
        0x1F],
      (sel ++ 0x1FFFFFFFF#33 : OpWord).extractLsb' 33 5 = sel ∧ (sel ++ 0#33 : OpWord).extractLsb' 33 5 = sel := by
  decide

theorem witness_EncodeOfDecodedPs2WordIsTheWord :
    ((0x400 : LineFrame).getLsbD 0 = false ∧ (0x400 : LineFrame).getLsbD 10 = true) ∧
      (0x401 : LineFrame).getLsbD 0 = true ∧ (0x3FE : LineFrame).getLsbD 10 = false := by decide

theorem witness_UnusedArgumentBitsAreIgnored :
    Config.default.Wf ∧ (0xFF : Byte).extractLsb' 0 3 = (7 : ModeCode) := by decide

theorem witness_ReservedSelectorsChangeNothing :
    (0x01FFFFFFFF : OpWord).extractLsb' 33 5 = 0x00#5 ∧ (0x3D00000000 : OpWord).extractLsb' 33 5 = 0x1E#5 := by decide

theorem witness_SealedFramesValidate :
    (0x33 : Byte) = Config.default.reqMagic ∧ Config.default.cksum = .crc16 ∧
      (0x33 : Byte) = { Config.default with cksum := .substitute 0 }.reqMagic := by decide

theorem witness_StepRunsTheDecodedOperation :
    (booted 0x09).port = [] ∧ ({ booted 0x09 with port := [0x1A00000000] } : State).port = [0x1A00000000] ∧
      decode ({ booted 0x09 with port := [0x1A00000000] } : State).cfg (.opw 0x1A00000000) = .ok .hidClear := by decide

theorem witness_LinkByteAccumulatesThenRunsTheFrame :
    ((linkAt 0 9).fcv.fidx = 0 ∧ (0 : Fin 8).val < 7 ∧ (1 : Fin 8).val = (0 : Fin 8).val + 1) ∧
      ((linkAt 6 9).fcv.fidx = 6 ∧ (6 : Fin 8).val < 7 ∧ (7 : Fin 8).val = (6 : Fin 8).val + 1) ∧
      (linkAt 7 9).fcv.fidx = 7 := by decide

theorem witness_PollRunsTheReceivedWord :
    ((withPhy idlePhy).phy .line0).inited = true ∧
      (taskHead (withPhy idlePhy).cfg .line0 ((withPhy idlePhy).phy .line0)).phy.rxf = [] ∧
      (taskHead Config.default .line0 { idlePhy with rxf := [0x1ED, 0x0ED] }).phy.rxf = [0x1ED, 0x0ED] := by decide

theorem witness_EngineRunsTheWaitingFrame :
    let p : Phy := { idlePhy with txf := [lineFrame true 0xFA], eng := { Eng.reset with idleCnt := 4 } }
    p.inited = true ∧ p.eng.st = .idle ∧ p.txf = lineFrame true 0xFA :: [] ∧
      (withPhy p).cfg.idleHold ≤ min (p.eng.idleCnt + 1) (withPhy p).cfg.idleHold := by decide

theorem witness_EngineStepInIdle :
    ((withPhy idlePhy).phy .line0 = idlePhy ∧ idlePhy.inited = true ∧ idlePhy.eng.st = .idle) ∧
      (4 = min (3 + 1) Config.default.idleHold ∧ 4 < Config.default.idleHold) ∧
      (5 = min (5 + 1) Config.default.idleHold ∧ Config.default.idleHold ≤ 5) ∧
      ({ idlePhy with txf := [0x7F4] } : Phy).txf = 0x7F4 :: [] := by decide

theorem witness_EngineStepInTransmitting :
    ((withPhy (sending 0)).phy .line0 = sending 0 ∧ (sending 0).inited = true ∧ (sending 0).eng.st = .transmitting ∧
        (sending 0).eng.bitn ≤ 9) ∧
      (sending 9).eng.bitn ≤ 9 ∧ (sending 10).eng.bitn = 10 := by decide

theorem witness_EngineStepInReceiving :
    ((withPhy (receiving 1 true)).phy .line0 = receiving 1 true ∧ (receiving 1 true).inited = true ∧
        (receiving 1 true).eng.st = .receiving ∧ 1 ≤ (receiving 1 true).eng.bitn) ∧
      (receiving 8 true).eng.bitn ≤ 8 ∧ (receiving 9 true).eng.bitn = 9 ∧ (receiving 10 true).eng.bitn = 10 ∧
      ((receiving 11 true).eng.bitn = 11 ∧ (receiving 11 true).eng.rxStop = true ∧
        ({ receiving 11 true with rxf := [1, 2, 3] } : Phy).rxf.length < Config.default.rxfDepth ∧
        Config.default.rxfDepth ≤ ({ receiving 11 true with rxf := [1, 2, 3, 4] } : Phy).rxf.length) ∧
      (receiving 11 false).eng.bitn = 11 ∧ (receiving 11 false).eng.rxStop = false := by decide

theorem witness_EngineStepEmitsOneWireEvent :
    ((sending 10).inited = true ∧ (sending 10).eng.Inv Config.default) ∧ (receiving 11 true).eng.Inv Config.default ∧
      (receiving 1 false).eng.Inv Config.default ∧
      ((sending 11).eng.st = .transmitting ∧ 11 ≤ (sending 11).eng.bitn) ∧
      ((receiving 0 true).eng.st = .receiving ∧ (receiving 0 true).eng.bitn = 0) ∧
      12 ≤ (receiving 12 true).eng.bitn := by decide

theorem witness_TransmissionShiftsOutTheFrame :
    let p : Phy := { idlePhy with txf := [0x7F4] }
    ((withPhy p).phy .line0).inited = true ∧ p.eng.st = .idle ∧ p.eng.idleCnt = (withPhy p).cfg.idleHold ∧
      p.txf = 0x7F4 :: [] := by decide

theorem witness_ReceptionDeliversTheByte :
    let p : Phy := { idlePhy with rxf := [1, 2, 3] }
    ((withPhy p).phy .line0).inited = true ∧ p.eng.st = .idle ∧ p.rxf.length < (withPhy p).cfg.rxfDepth := by decide

theorem witness_InitClearsAndOpensTheInstance : ((booted 0x09).phy .line1).inited = false := by decide

theorem witness_EnqueueAppendsOrDrops :
    (((withPhy (queued 8)).phy .line0).inited = true ∧
        ((withPhy (queued 8)).phy .line0).byteq.length < (withPhy (queued 8)).cfg.byteqDepth) ∧
      (withPhy (queued 9)).cfg.byteqDepth ≤ ((withPhy (queued 9)).phy .line0).byteq.length := by decide

/-- An instance with `n` bytes waiting and `m` packets of two bytes in the queue, `sent` bytes of the first handed over. -/
def waiting (n m sent : Nat) : Phy :=
  { idlePhy with byteq := List.replicate n 0x1C, packq := List.replicate m ⟨[0xAB, 0x83]⟩, sent := sent }

/-- The hypotheses on the poll, both ends of the packet queue's room, and each clause: the gate shut by the engine, by
the idle count (the least below) and by a waiting word; open, the head packet finished and unfinished; and an error. -/
theorem witness_PollPacketisesWaitingBytes :
    (∀ m ∈ [0, 15, 16], ∀ n ∈ [1, 9, 10], (withPhy (waiting n m 0)).phy .line0 = waiting n m 0 ∧
        (waiting n m 0).inited = true ∧ (waiting n m 0).byteq ≠ [] ∧ (waiting n m 0).rxFerr = false ∧
        (waiting n m 0).rxf = [] ∧ (waiting n m 0).err = false) ∧
      (waiting 9 15 0).packq.length < Config.default.packqDepth ∧
      Config.default.packqDepth ≤ (waiting 9 16 0).packq.length ∧
      (sending 4).eng.st ≠ .idle ∧ ({ waiting 1 1 1 with txf := [0x7F4] } : Phy).txf ≠ [] ∧
      ({ waiting 1 0 0 with eng := { Eng.reset with idleCnt := 4 } } : Phy).eng.idleCnt < Config.default.idleHold ∧
      ((waiting 1 16 0).txf = [] ∧ (waiting 1 16 0).eng.st = .idle ∧
        Config.default.idleHold ≤ (waiting 1 16 0).eng.idleCnt ∧ 1 ≤ Config.default.txfDepth) ∧
      (waiting 1 0 0).packq ++ [⟨(waiting 1 0 0).byteq.take Config.default.packMax⟩] = ⟨[0x1C]⟩ :: [] ∧
      ((waiting 1 15 2).packq ++ [⟨[0x1C]⟩] = ⟨[0xAB, 0x83]⟩ :: (List.replicate 14 ⟨[0xAB, 0x83]⟩ ++ [⟨[0x1C]⟩]) ∧
        (waiting 1 15 2).sent = 2 ∧ (waiting 1 15 1).sent < 2) ∧
      ({ waiting 1 16 1 with err := true } : Phy).err = true := by decide

theorem witness_PollRetiresSendsOrRewinds :
    (∀ n ∈ [0, 1, 2], (packetised n).inited = true ∧ (packetised n).byteq = [] ∧ (packetised n).rxFerr = false ∧
        (packetised n).rxf = [] ∧ (packetised n).err = false ∧ (packetised n).txf = [] ∧
        (packetised n).eng.st = .idle ∧ Config.default.idleHold ≤ (packetised n).eng.idleCnt ∧
        1 ≤ Config.default.txfDepth ∧ (packetised n).packq = ⟨[0xAB, 0x83]⟩ :: []) ∧
      (packetised 2).sent = 2 ∧ (packetised 1).sent < 2 ∧ (packetised 0).sent < 2 ∧
      idlePhy.packq = [] ∧ ({ packetised 1 with txf := [0x7F4] } : Phy).txf ≠ [] ∧ (sending 4).eng.st ≠ .idle ∧
      ({ packetised 1 with eng := { Eng.reset with idleCnt := 4 } } : Phy).eng.idleCnt < Config.default.idleHold ∧
      ({ packetised 1 with err := true } : Phy).err = true := by decide

/-- The state rule R165 leaves (an idle engine, idle count 0; vector VE7), a busy engine, and a poll that also sends. -/
theorem witness_PollAnswersAFrameErrorWithANak :
    (let p : Nat → Phy := fun n =>
        { packetised 1 with eng := Eng.reset, rxFerr := true, txf := List.replicate n 0x7F4 }
     (∀ n ∈ [0, 3, 4], (withPhy (p n)).phy .line0 = p n ∧ (p n).inited = true ∧ (p n).rxf = [] ∧
         (p n).rxFerr = true ∧ (p n).byteq = [] ∧ (p n).err = false ∧ (p n).eng.st = .idle ∧
         (p n).eng.idleCnt < Config.default.idleHold) ∧
       (p 3).txf.length < Config.default.txfDepth ∧ Config.default.txfDepth ≤ (p 4).txf.length) ∧
      (sending 4).eng.st ≠ .idle ∧ idlePhy.packq = [] ∧
      after (fun t => t.phy0.txf) (exec (.ps2Task .line0) (withPhy { packetised 0 with rxFerr := true })) =
        some [0x556, 0x5FC] := by decide

theorem witness_ReceivedWordClassesAct :
    let p : Nat → Phy := fun n => { idlePhy with txf := List.replicate n 0x7F4 }
    (withPhy (p 3)).phy .line0 = p 3 ∧ (p 3).txf.length < (withPhy (p 3)).cfg.txfDepth ∧
      (withPhy (p 4)).cfg.txfDepth ≤ (p 4).txf.length := by decide

/-- Both outcomes of a poll occur: nothing received, and a byte delivered. -/
theorem witness_PollDeliversAtMostOneByte :
    ((withPhy idlePhy).phy .line0).inited = true ∧
      after State.trace (exec (.ps2Task .line0) (withPhy idlePhy)) = some [] ∧
      after State.trace (exec (.ps2Task .line0) (withPhy { idlePhy with rxf := [0x1ED, 0x0F4] })) =
        some [.ps2Rx .line0 0xED 0] := by decide

theorem witness_DeliveredBytesArePairedWithTheirPredecessor :
    (∀ i ∈ [Instr.ps2Task .line0, .ps2Task .line0], i ≠ .ps2Init .line0) ∧
      after State.trace (runInstrs [.ps2Task .line0, .ps2Task .line0]
        (withPhy { idlePhy with rxf := [0x1ED, 0x0F4] })) = some [.ps2Rx .line0 0xED 0, .ps2Rx .line0 0xF4 0xED] := by
  decide

theorem witness_DeliveredBytes_no_reset : ∀ i ∈ [Instr.ps2Task .line0], ∀ m, i ≠ .reset m := by simp

theorem witness_KeyIsDroppedOutsideUsbModeAndForCodeZero :
    (booted 0x0B).out.kbdMode ≠ .usb ∧ ((booted 0x09).out.kbdMode ≠ .usb ∨ (0 : Byte) = 0) := by decide

theorem witness_ModifierKeyWritesItsBit :
    (booted 0x09).out.kbdMode = .usb ∧ 0 < 8 ∧ 7 < 8 ∧ 0xE0#8 + BitVec.ofNat 8 7 = 0xE7 := by decide

theorem witness_RegularKeyPressAllocatesASlot :
    ((holding #v[4, 5, 0, 7, 8, 9]).out.kbdMode = .usb ∧ (1 : Byte) ≠ 0 ∧ (0xDF#8 < 0xE0#8 ∧ 0xE7#8 < 0xE8#8)) ∧
      (∃ j : Fin 6, (holding #v[4, 5, 0, 7, 8, 0xDF]).kbd.keys[j] = 0xDF) ∧
      ((∀ j : Fin 6, (holding #v[4, 5, 0, 7, 8, 9]).kbd.keys[j] ≠ 0xE8) ∧
        (holding #v[4, 5, 0, 7, 8, 9]).kbd.keys[(2 : Fin 6)] = 0 ∧
        ∀ i : Fin 6, i < 2 → (holding #v[4, 5, 0, 7, 8, 9]).kbd.keys[i] ≠ 0) ∧
      (∀ j : Fin 6, (holding #v[4, 5, 6, 7, 8, 9]).kbd.keys[j] ≠ 0 ∧
        (holding #v[4, 5, 6, 7, 8, 9]).kbd.keys[j] ≠ 0x0A) ∧
      (booted 0x09).cfg.keyPolicy = .overwriteSlot0 ∧
      ({ Config.default with keyPolicy := .dropNew } : Config).keyPolicy = .dropNew := by decide

theorem witness_RegularKeyReleaseFreesItsSlot :
    (holding #v[4, 5, 0, 7, 8, 9]).out.kbdMode = .usb ∧ (4 : Byte) ≠ 0 ∧ ((4 : Byte) < 0xE0#8 ∨ 0xE7#8 < (4 : Byte)) ∧
      (holding #v[4, 5, 0, 7, 8, 9]).kbd.keys[(0 : Fin 6)] = 4 ∧ 0xE7#8 < 0xE8#8 := by decide

theorem witness_MouseButtonsSelectAndState :
    usbMouse (booted 0x09).out.mouseMode = true ∧ (booted 0x01).out.mouseMode = .none ∧
      (booted 0x1B).out.mouseMode = .ps2 := by decide

/-- The legacy mode needs its capability bit. -/
theorem witness_MouseMotionStoresItsOperandsByMode :
    (booted 0x09).out.mouseMode = .usbAbs ∧ (booted 0x11).out.mouseMode = .usbRel ∧
      (booted 0x19).out.mouseMode = .ps2 ∧ (booted 0x01).out.mouseMode = .none ∧
      (State.resetWith { Config.default with avail := 0x07 } 0x21).out.mouseMode = .usbLegacyAbs := by decide

theorem witness_ScaledPositionIsInRangeAndMonotone :
    Config.default.absMax = 32767 ∧ (0x8000 : Half).toInt ≤ (0x7FFF : Half).toInt := by decide

theorem witness_OfflineAfterExactlyHystSamples :
    let s : State :=
      { booted 0x09 with kbd := { Kbd.reset with online := true }, mouse := { Mouse.reset with online := true } }
    1 ≤ s.cfg.hystMs ∧ (s.kbd.online = true ∧ s.kbd.unreadyMs = 0) ∧ (s.mouse.online = true ∧ s.mouse.unreadyMs = 0) ∧
      ([] : List Bool).length ≤ s.cfg.hystMs ∧ (true :: List.replicate 48 false).length < s.cfg.hystMs ∧
      (true :: List.replicate 49 false).length = s.cfg.hystMs := by decide

theorem witness_SyncSendsTheKeyboardReport :
    (let s := pendingState .usbAbs true false false false
     (s.mouse.dirty = false ∧ s.mouse.force = false) ∧ s.out.kbdMode = .usb ∧ s.kbd.dirty = true) ∧
      (let s := pendingState .none false true true true
       usbMouse s.out.mouseMode = false ∧ s.out.kbdMode = .usb ∧ s.kbd.force = true) ∧
      (pendingState .none false false true true).kbd.dirty = false ∧
      (pendingState .none false false true true).kbd.force = false := by decide

theorem witness_SyncSendsTheMouseReport :
    (∀ m ∈ [MouseMode.usbAbs, .usbRel, .usbLegacyAbs, .ps2, .none],
      let s := pendingState m false false true false
      (s.kbd.dirty = false ∧ s.kbd.force = false) ∧ s.mouse.dirty = true ∧ s.out.mouseMode = m) ∧
      (pendingState .usbRel false false false true).mouse.force = true := by decide

theorem witness_SyncSendsTheKeyboardBeforeTheMouse :
    ∀ m ∈ [MouseMode.usbAbs, .usbLegacyAbs, .usbRel],
      let s := pendingState m false true true false
      s.out.kbdMode = .usb ∧ s.kbd.force = true ∧ s.out.mouseMode = m ∧ s.mouse.dirty = true := by decide

theorem witness_SuspendedSyncRequestsOneWakeup :
    ((pendingState .usbAbs true false false false).out.kbdMode = .usb ∧
        (pendingState .usbAbs true false false false).kbd.dirty = true) ∧
      (usbMouse (pendingState .usbAbs false false false true).out.mouseMode = true ∧
        (pendingState .usbAbs false false false true).mouse.force = true) ∧
      (pendingState .usbAbs false false false false).kbd.dirty = false ∧
      (pendingState .usbAbs false false false false).kbd.force = false ∧
      usbMouse (pendingState .ps2 false false true true).out.mouseMode = false := by decide

theorem witness_OutputSwitchClearsThenFlips :
    (decodeKbd Config.default 3 = some .ps2 ∧ kbdAvailable Config.default .ps2 = true ∧
        kbdCode Config.default .ps2 = 3) ∧
      decodeKbd Config.default 2 = none ∧
      (decodeKbd { Config.default with avail := 0x01 } 3 = some .ps2 ∧
        kbdAvailable { Config.default with avail := 0x01 } .ps2 = false) ∧
      (decodeMouse Config.default 2 = some .usbRel ∧ mouseAvailable Config.default .usbRel = true ∧
        mouseCode Config.default .usbRel = 2) ∧
      decodeMouse Config.default 7 = none ∧
      decodeMouse Config.default 4 = some .usbLegacyAbs ∧ mouseAvailable Config.default .usbLegacyAbs = false := by
  decide

theorem witness_ModeTablesDecodeTheirCodes :
    Config.default.modes.Wf ∧ Config.default.layout = Config.defaultLayout ∧ Config.default.layout.Wf ∧
      MaskLayout.Wf { kbdLo := 5, mouseLo := 2 } ∧ kbdAvailable Config.default .ps2 = true ∧
      mouseAvailable Config.default .usbRel = true ∧ Config.default.modes = Config.defaultModes ∧ Config.default.hasUsb = 0x01 ∧
      Config.default.hasPs2 = 0x02 ∧ Config.default.hasUsbLegacy = 0x04 := by decide

theorem witness_SilenceOrABusErrorDiscardsAPartialFrame :
    (linkAt 0 0).fcv.fidx = 0 ∧
      ((linkAt 1 98).fcv.fidx ≠ 0 ∧ (linkAt 1 98).fcv.silentMs + 1 < (linkAt 1 98).cfg.linkTimeoutMs) ∧
      (linkAt 7 99).fcv.fidx ≠ 0 ∧ (linkAt 7 99).cfg.linkTimeoutMs ≤ (linkAt 7 99).fcv.silentMs + 1 := by decide

theorem witness_InvalidFrameChangesNothingButTheStatus :
    badFrame[6] ++ badFrame[7] ≠
        cksum16 Config.default [badFrame[0], badFrame[1], badFrame[2], badFrame[3], badFrame[4], badFrame[5]] ∧
      (#v[0x34, 0x01, 0, 0, 0, 0, 0xAF, 0x39] : Frame)[0] ≠ Config.default.reqMagic := by decide

theorem witness_StatusCommandsAnswer :
    ∃ answer : Byte → State → State, ∀ code u, answer code u =
      { u with
        cdr := { u.cdr with prevStatus := code }
        trace := u.trace ++ [.respOut (sealFrame u.cfg u.cfg.respMagic code
          ((mouseCode u.cfg u.out.mouseMode).setWidth 8 <<< u.cfg.layout.mouseLo |||
            (kbdCode u.cfg u.out.kbdMode).setWidth 8 <<< u.cfg.layout.kbdLo) u.cfg.avail 0 0)] } :=
  ⟨_, fun _ _ => rfl⟩

theorem witness_StatusFlagsTellRebootAndOffline : (booted 0x09).cfg.st.Wf := by decide

theorem witness_EventCommandsRouteByMode :
    (booted 0x09).out.kbdMode = .usb ∧ (booted 0x0B).out.kbdMode = .ps2 ∧ (booted 0x08).out.kbdMode = .none ∧
      (booted 0x1B).out.mouseMode = .ps2 ∧ (booted 0x0B).out.mouseMode ≠ .ps2 ∧
      (booted 0x1B).cfg.reading.wholeButtons = false ∧
      ({ Config.defaultReading with wholeButtons := true } : Readings).wholeButtons = true := by decide

theorem witness_EveryCommandCompletesWithOneResponse :
    (∃ m, Instr.cmdSetMouse 7 = .cmdSetKbd m ∨ Instr.cmdSetMouse 7 = .cmdSetMouse m) ∧
      ∃ f, Instr.frameInvalid badFrame = .frameInvalid f := ⟨⟨7, .inr rfl⟩, badFrame, rfl⟩

theorem witness_RepeatedPingsAnswerIdentically :
    ∃ t u v : State, exec .cmdPing (booted 0x09) = .next t ∧ exec .cmdPing t = .next u ∧ exec .cmdRepeat t = .next v :=
  ⟨_, _, _, rfl, rfl, rfl⟩

theorem witness_ResetPutsEveryRegisterAtItsValue :
    (decodeKbd Config.default ((0x1B : Byte).extractLsb' 0 3) = some .ps2 ∧
        kbdAvailable Config.default .ps2 = true) ∧
      decodeKbd Config.default ((0x3F : Byte).extractLsb' 0 3) = none ∧
      (decodeMouse Config.default ((0x21 : Byte).extractLsb' 3 3) = some .usbLegacyAbs ∧
        mouseAvailable Config.default .usbLegacyAbs = false) ∧
      (decodeMouse Config.default ((0x1B : Byte).extractLsb' 3 3) = some .ps2 ∧
        mouseAvailable Config.default .ps2 = true) ∧
      decodeMouse Config.default ((0x3F : Byte).extractLsb' 3 3) = none := by decide

/-- Each way a step writes a unit's registers, an eighth link byte among them. -/
theorem witness_UnitsOwnTheirRegisters :
    phyLine (.engStep .line0 true true) ≠ some .line1 ∧ phyLine (.engStep .line0 true true) = some .line0 ∧
      after (fun t => decide (t.phy0 ≠ idlePhy)) (exec (.engStep .line0 true false) (withPhy idlePhy)) = some true ∧
      after (fun t => decide (t.out ≠ (booted 0x09).out)) (exec (.cmdSetKbd 3) (booted 0x09)) = some true ∧
      after (fun t => decide (t.fcv ≠ (linkAt 1 5).fcv)) (exec .linkTickMs (linkAt 1 5)) = some true ∧
      after (fun t => decide (t.kbd ≠ (booted 0x09).kbd)) (exec (.hidKey 4 true) (booted 0x09)) = some true ∧
      after (fun t => decide (t.mouse ≠ (booted 0x09).mouse)) (exec (.cmdMouseBtn 1 1) (booted 0x09)) = some true ∧
      after (fun t => decide (t.cdr ≠ (linkAt 7 99).cdr)) (exec .linkTickMs (linkAt 7 99)) = some true ∧
      after (fun t => (decide (t.kbd ≠ Kbd.reset), decide (t.cdr ≠ (linkAt 7 0).cdr)))
        (exec (.linkByte 0xA9)
          { booted 0x09 with fcv := { fbuf := #v[0x33, 0x11, 4, 1, 0, 0, 0x2B, 0], fidx := 7, silentMs := 0 } }) =
      some (true, true) := by decide

theorem witness_OnlyLinkByteStoresToTheFrameBuffer :
    after (fun t => t.fcv.fbuf) (exec (.linkByte 0x33) (linkAt 3 0)) = some #v[0, 0, 0, 0x33, 0, 0, 0, 0] ∧
      (4 : Fin 8) ≠ (linkAt 3 0).fcv.fidx := by decide

theorem witness_RebootRequestIsCancelledOnlyByReset :
    after (fun t => t.cdr.rebootReq) (exec (.cmdSetKbd 3) (booted 0x09)) = some true ∧
      after (fun t => t.cdr.rebootReq)
        (exec .cmdPing { booted 0x09 with cdr := { prevStatus := 0x24, rebootReq := true } }) = some true := by decide

theorem witness_NoKeyIsStuckAcrossAModeSwitch :
    after (fun t => (decide (t.out ≠ (booted 0x09).out), t.kbd.keys))
        (exec (.outSetKbd 3) (holding #v[4, 5, 6, 7, 8, 9])) = some (true, #v[0, 0, 0, 0, 0, 0]) ∧
      after (fun t => decide (t.out ≠ (booted 0x09).out)) (exec (.outSetMouse 2) (booted 0x09)) = some true := by decide

/-- The invariant holds with an engine in flight, slots held and a partial frame. -/
theorem witness_State_Inv :
    State.Inv
      { booted 0x09 with
        port := [0x2000000000]
        phy0 := { sending 4 with byteq := [0x1C], packq := [⟨[0xAB, 0x83]⟩], sent := 1, txf := [0x556] }
        phy1 := receiving 11 false
        kbd := { Kbd.reset with keys := #v[4, 0, 5, 0, 0, 0], mod := 0x81, online := true, unreadyMs := 49 }
        mouse := { Mouse.reset with buttons := 0x1F, ax := 0x8000, dirty := true }
        fcv := { Fcv.reset with fidx := 7, silentMs := 99 } } := by
  refine ⟨?_, ?_, ?_, ?_, ?_, ?_, ?_, ?_⟩ <;> decide

/-- A step from it completes and emits a response whose status is not 0. -/
theorem witness_NoResponseCarriesStatusZero :
    after State.trace
        (step { booted 0x09 with port := [0x2000400000], fcv := { fbuf := badFrame, fidx := 7, silentMs := 0 } }) =
      some [.respOut #v[0x34, 0x40, 0x09, 0x03, 0, 0, 0x3C, 0xF6]] := by decide

theorem witness_NoResponse_Inv :
    State.Inv { booted 0x09 with port := [0x2000400000], fcv := { fbuf := badFrame, fidx := 7, silentMs := 0 } } := by
  refine ⟨?_, ?_, ?_, ?_, ?_, ?_, ?_, ?_⟩ <;> decide

theorem witness_ResetStateHasTheInvariant : Config.default.Wf ∧ Config.bootActive = 0x09 := by decide

end Sys2Proof.Tests
end

/-! PROOFS. What one step does, by the port. -/

namespace Sys2Proof

/-- Every operation word decodes, under every setting of the parameters. -/
@[simp] theorem decode_opw_eq_ok_iff (c : Config) (w : OpWord) (i : Instr) :
    decode c (.opw w) = .ok i ↔ decodeOpw w = i :=
  Iff.of_eq (Except.ok.injEq _ _)

end Sys2Proof

namespace Sys2Proof.Machine

theorem step_of_port_nil {s : State} (hport : s.port = []) : step s = .next s := by
  simp only [step, hport]

theorem step_of_port_cons {s : State} {w : OpWord} {rest : List OpWord} (hport : s.port = w :: rest) :
    step s = exec (decodeOpw w) (s.takeWord rest) := by
  simp only [step, hport]

/-- Settles O9: the two cases of the port, with the decoder's answer for an operation word. -/
theorem stepRunsTheDecodedOperation : Obligations.StepRunsTheDecodedOperation := by
  intro s
  refine ⟨step_of_port_nil, fun w rest i hport hdec => ?_⟩
  have hi : decodeOpw w = i := (decode_opw_eq_ok_iff s.cfg w i).1 hdec
  calc step s = exec (decodeOpw w) (s.takeWord rest) := step_of_port_cons hport
    _ = exec i { s with port := rest, ret := none } := by rw [hi, State.takeWord]

end Sys2Proof.Machine

/-! PROOFS. Which registers each instruction writes, and that nothing but a mode command asks for a reboot. -/

namespace Sys2Proof.Machine

/-! ### What an instruction leaves alone: the PHY lines, the parameters, the port and the past -/

/-- An instruction of a PHY line touches that line alone. -/
theorem exec_phySide {i : Instr} {d : Dev} {s t : State} (hline : phyLine i = some d) (h : exec i s = .next t) :
    State.PhySide d s t := by
  cases i with
  | ps2Init e => cases hline; cases h; exact .setPhy d s _
  | ps2Enq e b =>
    cases hline
    cases hi : (s.phy d).inited
    · simp only [exec, execPs2Enq, hi] at h
      cases h
      exact .returning d s false
    · simp only [exec, execPs2Enq, hi] at h
      cases h
      exact .enqueue d s b
  | ps2Task e => cases hline; exact .execPs2Task h
  | engStep e hClk hData => cases hline; exact .execEngStep h
  | rxBadparity e par data => cases hline; cases h; exact .rxBadParity d s
  | rxResend e => cases hline; cases h; exact .rxResend d s
  | rxData e par data => cases hline; cases h; exact .rxDeliver d s data
  | ps2Frame e par data => cases hline; cases h; exact .setPhy d s _
  | _ => cases hline

/-- `t` has the parameters, the port and both PHY lines of `s`, and whatever `s` emitted and raised. -/
structure State.OffLine (s t : State) : Prop where
  cfg : t.cfg = s.cfg
  port : t.port = s.port
  phy0 : t.phy0 = s.phy0
  phy1 : t.phy1 = s.phy1
  trace : s.trace <+: t.trace
  raised : s.raised <+: t.raised

namespace State.OffLine

theorem trans {s t u : State} (h : OffLine s t) (k : OffLine t u) : OffLine s u :=
  ⟨k.cfg.trans h.cfg, k.port.trans h.port, k.phy0.trans h.phy0, k.phy1.trans h.phy1, h.trace.trans k.trace,
    h.raised.trans k.raised⟩

theorem of_usbSide {s t : State} (h : UsbSide s t) : OffLine s t :=
  ⟨h.cfg, h.port, h.phy0, h.phy1, h.trace_prefix, h.raised⟩

/-- Any new frame validator and returned value. -/
theorem link (s : State) (f : Fcv) (r : Option Bool) : OffLine s { s with fcv := f, ret := r } :=
  ⟨rfl, rfl, rfl, rfl, List.prefix_rfl, List.prefix_rfl⟩

theorem linkByte (s : State) (b : Byte) : OffLine s (s.linkByte b) := by
  unfold State.linkByte
  dsimp only
  split
  · exact link s _ s.ret
  · exact (link s _ s.ret).trans (of_usbSide (.handle _ _))

theorem linkTick (s : State) : OffLine s s.linkTick :=
  ite_of (of_usbSide (.refl s)) (ite_of ((link s _ s.ret).trans (of_usbSide (.linkTimeout _))) (link s _ s.ret))

theorem phy {s t : State} (h : OffLine s t) (d : Dev) : t.phy d = s.phy d := by
  cases d
  · exact h.phy0
  · exact h.phy1

end State.OffLine

/-- An instruction of no PHY line, `RESET` apart, touches no PHY line. -/
theorem exec_offLine {i : Instr} {s t : State} (hline : phyLine i = none) (hr : ∀ m, i ≠ .reset m)
    (h : exec i s = .next t) : State.OffLine s t := by
  cases i with
  | reset m => exact absurd rfl (hr m)
  | linkByte b => cases h; exact .linkByte s b
  | linkTickMs => cases h; exact .linkTick s
  | linkResync => cases h; exact .trans (.link s _ s.ret) (.of_usbSide (.raise _ _))
  | outSetKbd m => cases h; exact .trans (.of_usbSide (.outSetKbd s m)) (.link _ _ _)
  | outSetMouse m => cases h; exact .trans (.of_usbSide (.outSetMouse s m)) (.link _ _ _)
  | hidKey code pressed => cases h; exact .of_usbSide (.hidKey s _ _)
  | hidMbtn sel st => cases h; exact .of_usbSide (.hidMbtn s _ _)
  | hidMabs x y => cases h; exact .of_usbSide (.hidMabs s _ _)
  | hidMrel dx dy => cases h; exact .of_usbSide (.hidMrel s _ _)
  | hidMwheel hz v => cases h; exact .of_usbSide (.hidMwheel s _ _)
  | hidClear => cases h; exact .of_usbSide (.hidClear s)
  | hidTickMs kr mr => cases h; exact .of_usbSide (.hidTick s _ _)
  | hidSync susp kr mr ko mo => cases h; exact .of_usbSide (.hidSync s _ _ _ _ _)
  | cmdPing | cmdRepeat | cmdSetConnected => cases h; exact .of_usbSide (.respond s _)
  | cmdSetKbd m => cases h; exact .of_usbSide (.cmdSetKbd s m)
  | cmdSetMouse m => cases h; exact .of_usbSide (.cmdSetMouse s m)
  | cmdClearHid => cases h; exact .of_usbSide (.cmdClearHid s)
  | cmdKey code pressed => cases h; exact .of_usbSide (.cmdKey s _ _)
  | cmdMouseAbs x y => cases h; exact .of_usbSide (.cmdMouseAbs s _ _)
  | cmdMouseBtn sel st => cases h; exact .of_usbSide (.cmdMouseBtn s _ _)
  | cmdMouseWheel hz v => cases h; exact .of_usbSide (.cmdMouseWheel s _ _)
  | cmdMouseRel dx dy => cases h; exact .of_usbSide (.cmdMouseRel s _ _)
  | cmdUnknown cmd => cases h; exact .of_usbSide (.cmdUnknown s)
  | frameInvalid f => cases h; exact .of_usbSide (.frameInvalid s)
  | ps2Init d | ps2Enq d b | ps2Task d | engStep d a b | rxBadparity d p b | rxResend d | rxData d p b
  | ps2Frame d p b => cases hline
  | _ => cases h; exact .of_usbSide (.refl s)

/-! ### The registers off the PHY lines an instruction may write -/

/-- A set of the units off the PHY lines: the modes, the keyboard, the mouse, the frame validator, the response
state. -/
structure Footprint where
  out : Bool := false
  kbd : Bool := false
  mouse : Bool := false
  fcv : Bool := false
  cdr : Bool := false

/-- The units an instruction other than `RESET` may write (rules R21, R344, R378); `eighth` says that the next link byte
completes a frame. -/
def footprint (eighth : Bool) : Instr → Footprint
  | .hidKey _ _ => { kbd := true }
  | .hidMbtn _ _ | .hidMabs _ _ | .hidMrel _ _ | .hidMwheel _ _ => { mouse := true }
  | .hidClear | .hidTickMs _ _ | .hidSync _ _ _ _ _ => { kbd := true, mouse := true }
  | .outSetKbd _ | .outSetMouse _ => { out := true, kbd := true, mouse := true }
  | .linkByte _ => { out := eighth, kbd := eighth, mouse := eighth, fcv := true, cdr := eighth }
  | .linkTickMs => { kbd := true, mouse := true, fcv := true, cdr := true }
  | .linkResync => { fcv := true }
  | .cmdPing | .cmdRepeat | .cmdSetConnected | .cmdUnknown _ | .frameInvalid _ => { cdr := true }
  | .cmdSetKbd _ | .cmdSetMouse _ => { out := true, kbd := true, mouse := true, cdr := true }
  | .cmdClearHid => { kbd := true, mouse := true, cdr := true }
  | .cmdKey _ _ => { kbd := true, cdr := true }
  | .cmdMouseAbs _ _ | .cmdMouseBtn _ _ | .cmdMouseWheel _ _ | .cmdMouseRel _ _ => { mouse := true, cdr := true }
  | _ => {}

/-- `t` and `s` agree on every unit outside `w`. -/
structure State.Within (w : Footprint) (s t : State) : Prop where
  out : w.out = false → t.out = s.out
  kbd : w.kbd = false → t.kbd = s.kbd
  mouse : w.mouse = false → t.mouse = s.mouse
  fcv : w.fcv = false → t.fcv = s.fcv
  cdr : w.cdr = false → t.cdr = s.cdr

namespace State.Within

variable {w : Footprint}

theorem all (s t : State) : Within { out := true, kbd := true, mouse := true, fcv := true, cdr := true } s t :=
  ⟨nofun, nofun, nofun, nofun, nofun⟩

/-- Nothing of the five units is written. -/
theorem same {s t : State} (ho : t.out = s.out) (hk : t.kbd = s.kbd) (hm : t.mouse = s.mouse) (hf : t.fcv = s.fcv)
    (hc : t.cdr = s.cdr) : Within w s t :=
  ⟨fun _ => ho, fun _ => hk, fun _ => hm, fun _ => hf, fun _ => hc⟩

theorem refl (s : State) : Within w s s := same rfl rfl rfl rfl rfl

theorem trans {s t u : State} (h : Within w s t) (k : Within w t u) : Within w s u :=
  ⟨fun e => (k.out e).trans (h.out e), fun e => (k.kbd e).trans (h.kbd e), fun e => (k.mouse e).trans (h.mouse e),
    fun e => (k.fcv e).trans (h.fcv e), fun e => (k.cdr e).trans (h.cdr e)⟩

theorem emit (s : State) (e : Event) : Within w s (s.emit e) := same rfl rfl rfl rfl rfl

theorem raise (s : State) (e : ErrEvent) : Within w s (s.raise e) := same rfl rfl rfl rfl rfl

theorem returning (s : State) (b : Bool) : Within w s (s.returning b) := same rfl rfl rfl rfl rfl

theorem withOut (hw : w.out = true) (s : State) (x : Out) : Within w s { s with out := x } :=
  { refl s with out := fun e => absurd (hw.symm.trans e) (by decide) }

theorem withKbd (hw : w.kbd = true) (s : State) (x : Kbd) : Within w s { s with kbd := x } :=
  { refl s with kbd := fun e => absurd (hw.symm.trans e) (by decide) }

theorem withMouse (hw : w.mouse = true) (s : State) (x : Mouse) : Within w s { s with mouse := x } :=
  { refl s with mouse := fun e => absurd (hw.symm.trans e) (by decide) }

theorem withFcv (hw : w.fcv = true) (s : State) (x : Fcv) : Within w s { s with fcv := x } :=
  { refl s with fcv := fun e => absurd (hw.symm.trans e) (by decide) }

theorem withCdr (hw : w.cdr = true) (s : State) (x : Cdr) : Within w s { s with cdr := x } :=
  { refl s with cdr := fun e => absurd (hw.symm.trans e) (by decide) }

theorem hidKey (hw : w.kbd = true) (s : State) (code : Byte) (pressed : Bool) : Within w s (s.hidKey code pressed) :=
  ite_of (refl s) (ite_of (refl s) (ite_of (withKbd hw s _) (withKbd hw s _)))

theorem hidMbtn (hw : w.mouse = true) (s : State) (sel st : Byte) : Within w s (s.hidMbtn sel st) :=
  ite_of (withMouse hw s _) (refl s)

theorem hidMabs (hw : w.mouse = true) (s : State) (x y : Half) : Within w s (s.hidMabs x y) :=
  ite_of (withMouse hw s _) (refl s)

theorem hidMrel (hw : w.mouse = true) (s : State) (dx dy : Byte) : Within w s (s.hidMrel dx dy) :=
  ite_of (withMouse hw s _) (refl s)

theorem hidMwheel (hw : w.mouse = true) (s : State) (h v : Byte) : Within w s (s.hidMwheel h v) :=
  ite_of (withMouse hw s _) (refl s)

theorem hidClear (hk : w.kbd = true) (hm : w.mouse = true) (s : State) : Within w s s.hidClear :=
  (withKbd hk s s.kbd.clear).trans (withMouse hm { s with kbd := s.kbd.clear } s.mouse.clear)

theorem hidTick (hk : w.kbd = true) (hm : w.mouse = true) (s : State) (kr mr : Bool) : Within w s (s.hidTick kr mr) :=
  (withKbd hk s (s.hidTick kr mr).kbd).trans
    (withMouse hm { s with kbd := (s.hidTick kr mr).kbd } (s.hidTick kr mr).mouse)

theorem syncKbd (hw : w.kbd = true) (s : State) (susp ready ok : Bool) : Within w s (s.syncKbd susp ready ok) :=
  ite_of (ite_of (raise s _) (ite_of (ite_of ((emit s _).trans (withKbd hw _ _)) ((emit s _).trans (raise _ _)))
    (raise s _))) (refl s)

theorem syncMouse (hw : w.mouse = true) (s : State) (susp ready ok : Bool) : Within w s (s.syncMouse susp ready ok) :=
  ite_of (ite_of (raise s _) (ite_of (ite_of ((emit s _).trans (withMouse hw _ _)) ((emit s _).trans (raise _ _)))
    (raise s _))) (refl s)

theorem hidSync (hk : w.kbd = true) (hm : w.mouse = true) (s : State) (susp kr mr ko mo : Bool) :
    Within w s (s.hidSync susp kr mr ko mo) :=
  have h := (syncKbd hk s susp kr ko).trans (syncMouse hm _ susp mr mo)
  ite_of (h.trans (emit _ _)) h

theorem outSetKbd (ho : w.out = true) (hk : w.kbd = true) (hm : w.mouse = true) (s : State) (m : ModeCode) :
    Within w s (s.outSetKbd m).1 := by
  unfold State.outSetKbd
  split
  · exact (hidClear hk hm s).trans ((emit _ _).trans (withOut ho _ _))
  · exact raise s _

theorem outSetMouse (ho : w.out = true) (hk : w.kbd = true) (hm : w.mouse = true) (s : State) (m : ModeCode) :
    Within w s (s.outSetMouse m).1 := by
  unfold State.outSetMouse
  split
  · exact (hidClear hk hm s).trans ((emit _ _).trans (withOut ho _ _))
  · exact raise s _

theorem respond (hw : w.cdr = true) (s : State) (new : NewStatus) : Within w s (s.respond new) :=
  (emit s _).trans (withCdr hw _ _)

theorem routeKey (hw : w.kbd = true) (s : State) (code : Byte) (pressed : Bool) :
    Within w s (s.routeKey code pressed) := by
  unfold State.routeKey
  split
  · exact hidKey hw s _ _
  · exact emit s _
  · exact refl s

theorem routeMouse {s usb : State} (kind : MouseKind) (a b : Half) (h : Within w s usb) :
    Within w s (s.routeMouse kind a b usb) :=
  ite_of (emit s _) h

/-- Before the eighth byte a link byte writes the frame validator alone (rule R270). -/
theorem linkByte (hw : w.fcv = true) {s : State} (h7 : s.fcv.fidx ≠ 7) (b : Byte) : Within w s (s.linkByte b) := by
  have hlt : s.fcv.fidx.val < 7 := by omega
  simp only [State.linkByte, hlt, dif_pos]
  exact withFcv hw s _

theorem linkTick (hk : w.kbd = true) (hm : w.mouse = true) (hf : w.fcv = true) (hc : w.cdr = true) (s : State) :
    Within w s s.linkTick :=
  ite_of (refl s)
    (ite_of ((withFcv hf s _).trans ((raise _ _).trans ((hidClear hk hm _).trans (respond hc _ _)))) (withFcv hf s _))

end State.Within

/-- Every instruction but `RESET` writes within its footprint. -/
theorem exec_within {i : Instr} {s t : State} (hr : ∀ m, i ≠ .reset m) (h : exec i s = .next t) :
    State.Within (footprint (decide (s.fcv.fidx = 7)) i) s t := by
  cases hline : phyLine i with
  | some d =>
    have hp := exec_phySide hline h
    exact .same hp.out hp.kbd hp.mouse hp.fcv hp.cdr
  | none =>
    cases i with
    | reset m => exact absurd rfl (hr m)
    | linkByte b =>
      cases h
      by_cases h7 : s.fcv.fidx = 7
      · rw [h7]
        exact .all s _
      · exact .linkByte rfl h7 b
    | linkTickMs => cases h; exact .linkTick rfl rfl rfl rfl s
    | linkResync => cases h; exact .trans (.withFcv rfl s _) (.raise _ _)
    | outSetKbd m => cases h; exact .trans (.outSetKbd rfl rfl rfl s m) (.returning _ _)
    | outSetMouse m => cases h; exact .trans (.outSetMouse rfl rfl rfl s m) (.returning _ _)
    | hidKey code pressed => cases h; exact .hidKey rfl s _ _
    | hidMbtn sel st => cases h; exact .hidMbtn rfl s _ _
    | hidMabs x y => cases h; exact .hidMabs rfl s _ _
    | hidMrel dx dy => cases h; exact .hidMrel rfl s _ _
    | hidMwheel hz v => cases h; exact .hidMwheel rfl s _ _
    | hidClear => cases h; exact .hidClear rfl rfl s
    | hidTickMs kr mr => cases h; exact .hidTick rfl rfl s _ _
    | hidSync susp kr mr ko mo => cases h; exact .hidSync rfl rfl s _ _ _ _ _
    | cmdPing | cmdRepeat | cmdSetConnected => cases h; exact .respond rfl s _
    | cmdUnknown | frameInvalid => cases h; exact .trans (.raise s _) (.respond rfl _ _)
    | cmdSetKbd m => cases h; exact .trans (.outSetKbd rfl rfl rfl s m) (.trans (.respond rfl _ _) (.withCdr rfl _ _))
    | cmdSetMouse m =>
      cases h; exact .trans (.outSetMouse rfl rfl rfl s m) (.trans (.respond rfl _ _) (.withCdr rfl _ _))
    | cmdClearHid => cases h; exact .trans (.hidClear rfl rfl s) (.respond rfl _ _)
    | cmdKey code pressed => cases h; exact .trans (.routeKey rfl s _ _) (.respond rfl _ _)
    | cmdMouseAbs x y => cases h; exact .trans (.routeMouse _ _ _ (.hidMabs rfl s _ _)) (.respond rfl _ _)
    | cmdMouseBtn sel st => cases h; exact .trans (.routeMouse _ _ _ (.hidMbtn rfl s _ _)) (.respond rfl _ _)
    | cmdMouseWheel hz v => cases h; exact .trans (.routeMouse _ _ _ (.hidMwheel rfl s _ _)) (.respond rfl _ _)
    | cmdMouseRel dx dy => cases h; exact .trans (.routeMouse _ _ _ (.hidMrel rfl s _ _)) (.respond rfl _ _)
    | ps2Init d | ps2Enq d b | ps2Task d | engStep d a b | rxBadparity d p b | rxResend d | rxData d p b
    | ps2Frame d p b => cases hline
    | _ => cases h; exact .refl s

/-! ### Which instructions have a unit in their footprint -/

section
variable {i : Instr} {p : Prop} [Decidable p]

theorem footprint_fcv (h : (footprint (decide p) i).fcv = true) :
    (∃ b, i = .linkByte b) ∨ i = .linkTickMs ∨ i = .linkResync := by
  cases i with
  | linkByte b => exact .inl ⟨b, rfl⟩
  | linkTickMs => exact .inr (.inl rfl)
  | linkResync => exact .inr (.inr rfl)
  | _ => cases h

theorem footprint_out (h : (footprint (decide p) i).out = true) :
    (∃ m, i = .outSetKbd m ∨ i = .outSetMouse m ∨ i = .cmdSetKbd m ∨ i = .cmdSetMouse m) ∨
      (∃ b, i = .linkByte b) ∧ p := by
  cases i with
  | linkByte b => exact .inr ⟨⟨b, rfl⟩, of_decide_eq_true h⟩
  | outSetKbd m | outSetMouse m | cmdSetKbd m | cmdSetMouse m => simp
  | _ => cases h

theorem footprint_kbd (h : (footprint (decide p) i).kbd = true) :
    (∃ code pressed, i = .hidKey code pressed ∨ i = .cmdKey code pressed) ∨
      i = .hidClear ∨ i = .cmdClearHid ∨ (∃ kr mr, i = .hidTickMs kr mr) ∨
      (∃ susp kr mr ko mo, i = .hidSync susp kr mr ko mo) ∨
      (∃ m, i = .outSetKbd m ∨ i = .outSetMouse m ∨ i = .cmdSetKbd m ∨ i = .cmdSetMouse m) ∨
      i = .linkTickMs ∨ (∃ b, i = .linkByte b) ∧ p := by
  cases i with
  | linkByte b => simpa using of_decide_eq_true h
  | hidKey code pressed | cmdKey code pressed | hidClear | cmdClearHid | hidTickMs kr mr | hidSync susp kr mr ko mo
  | outSetKbd m | outSetMouse m | cmdSetKbd m | cmdSetMouse m | linkTickMs => simp
  | _ => cases h

theorem footprint_mouse (h : (footprint (decide p) i).mouse = true) :
    (∃ a b, i = .hidMbtn a b ∨ i = .cmdMouseBtn a b ∨ i = .hidMrel a b ∨ i = .cmdMouseRel a b ∨
        i = .hidMwheel a b ∨ i = .cmdMouseWheel a b) ∨
      (∃ x y, i = .hidMabs x y ∨ i = .cmdMouseAbs x y) ∨
      i = .hidClear ∨ i = .cmdClearHid ∨ (∃ kr mr, i = .hidTickMs kr mr) ∨
      (∃ susp kr mr ko mo, i = .hidSync susp kr mr ko mo) ∨
      (∃ m, i = .outSetKbd m ∨ i = .outSetMouse m ∨ i = .cmdSetKbd m ∨ i = .cmdSetMouse m) ∨
      i = .linkTickMs ∨ (∃ b, i = .linkByte b) ∧ p := by
  cases i with
  | linkByte b => simpa using of_decide_eq_true h
  | hidMbtn a b | cmdMouseBtn a b | hidMrel a b | cmdMouseRel a b | hidMwheel a b | cmdMouseWheel a b | hidMabs x y
  | cmdMouseAbs x y | hidClear | cmdClearHid | hidTickMs kr mr | hidSync susp kr mr ko mo | outSetKbd m
  | outSetMouse m | cmdSetKbd m | cmdSetMouse m | linkTickMs => simp
  | _ => cases h

theorem footprint_cdr (h : (footprint (decide p) i).cdr = true) :
    (∃ m, i = .cmdSetKbd m ∨ i = .cmdSetMouse m) ∨ (∃ code pressed, i = .cmdKey code pressed) ∨
      (∃ x y, i = .cmdMouseAbs x y) ∨ (∃ a b, i = .cmdMouseBtn a b ∨ i = .cmdMouseWheel a b ∨ i = .cmdMouseRel a b) ∨
      (∃ a, i = .cmdUnknown a) ∨ (∃ f, i = .frameInvalid f) ∨
      i = .cmdPing ∨ i = .cmdRepeat ∨ i = .cmdSetConnected ∨ i = .cmdClearHid ∨
      i = .linkTickMs ∨ (∃ b, i = .linkByte b) ∧ p := by
  cases i with
  | linkByte b => simpa using of_decide_eq_true h
  | cmdSetKbd m | cmdSetMouse m | cmdKey code pressed | cmdMouseAbs x y | cmdMouseBtn a b | cmdMouseWheel a b
  | cmdMouseRel a b | cmdUnknown a | frameInvalid f | cmdPing | cmdRepeat | cmdSetConnected | cmdClearHid
  | linkTickMs => simp
  | _ => cases h

end

/-- Settles O53: an instruction of a PHY line touches its own line alone, every other one stays off the lines, and
both write within their footprint, from which each unit's clause is read. -/
theorem unitsOwnTheirRegisters : Obligations.UnitsOwnTheirRegisters := by
  intro i s t h hr
  have hw := exec_within hr h
  obtain ⟨hphy, hrest⟩ : (∀ d, phyLine i ≠ some d → t.phy d = s.phy d) ∧
      t.cfg = s.cfg ∧ t.port = s.port ∧ s.trace <+: t.trace ∧ s.raised <+: t.raised := by
    cases hline : phyLine i with
    | some e =>
      have hp := exec_phySide hline h
      obtain ⟨es, htrace, -⟩ := hp.trace
      exact ⟨fun d hd => hp.other d (by rintro rfl; exact hd rfl), hp.cfg, hp.port, ⟨es, htrace.symm⟩, hp.raised⟩
    | none =>
      have ho := exec_offLine hline hr h
      exact ⟨fun d _ => ho.phy d, ho.cfg, ho.port, ho.trace, ho.raised⟩
  refine ⟨hphy, ?_, fun hn => footprint_fcv (by simpa using mt hw.fcv hn),
    fun hn => footprint_out (by simpa using mt hw.out hn), fun hn => footprint_kbd (by simpa using mt hw.kbd hn),
    fun hn => footprint_mouse (by simpa using mt hw.mouse hn), fun hn => footprint_cdr (by simpa using mt hw.cdr hn),
    hrest⟩
  rintro ⟨d, hline⟩
  have hp := exec_phySide hline h
  exact ⟨hp.out, hp.kbd, hp.mouse, hp.fcv, hp.cdr⟩

/-! ### The reboot request -/

theorem State.SameControl.respond_rebootReq {s t : State} (h : SameControl s t) (new : NewStatus) :
    (t.respond new).cdr.rebootReq = s.cdr.rebootReq := by
  rw [State.respond_cdr, h.cdr]

/-- A switch or its refusal leaves the response state to the command. -/
theorem State.outSetKbd_cdr (s : State) (m : ModeCode) : (s.outSetKbd m).1.cdr = s.cdr :=
  (Within.outSetKbd (w := { out := true, kbd := true, mouse := true }) rfl rfl rfl s m).cdr rfl

theorem State.outSetMouse_cdr (s : State) (m : ModeCode) : (s.outSetMouse m).1.cdr = s.cdr :=
  (Within.outSetMouse (w := { out := true, kbd := true, mouse := true }) rfl rfl rfl s m).cdr rfl

/-- Rule R306: the request is set when the switch was made. -/
theorem State.cmdSetKbd_rebootReq (s : State) (m : ModeCode) :
    (s.cmdSetKbd m).cdr.rebootReq = (s.cdr.rebootReq || (s.outSetKbd m).2) := by
  simp only [State.cmdSetKbd, State.requestReboot_cdr, State.respond_cdr, State.outSetKbd_cdr]

theorem State.cmdSetMouse_rebootReq (s : State) (m : ModeCode) :
    (s.cmdSetMouse m).cdr.rebootReq = (s.cdr.rebootReq || (s.outSetMouse m).2) := by
  simp only [State.cmdSetMouse, State.requestReboot_cdr, State.respond_cdr, State.outSetMouse_cdr]

theorem State.cmdKey_rebootReq (s : State) (code : Byte) (pressed : Bool) :
    (s.cmdKey code pressed).cdr.rebootReq = s.cdr.rebootReq :=
  (SameControl.routeKey s code pressed).respond_rebootReq _

theorem State.cmdMouseAbs_rebootReq (s : State) (x y : Half) :
    (s.cmdMouseAbs x y).cdr.rebootReq = s.cdr.rebootReq :=
  (SameControl.routeMouse _ _ _ (.hidMabs s x y)).respond_rebootReq _

theorem State.cmdMouseBtn_rebootReq (s : State) (sel st : Byte) :
    (s.cmdMouseBtn sel st).cdr.rebootReq = s.cdr.rebootReq :=
  (SameControl.routeMouse _ _ _ (.hidMbtn s sel st)).respond_rebootReq _

theorem State.cmdMouseWheel_rebootReq (s : State) (h v : Byte) :
    (s.cmdMouseWheel h v).cdr.rebootReq = s.cdr.rebootReq :=
  (SameControl.routeMouse _ _ _ (.hidMwheel s h v)).respond_rebootReq _

theorem State.cmdMouseRel_rebootReq (s : State) (dx dy : Byte) :
    (s.cmdMouseRel dx dy).cdr.rebootReq = s.cdr.rebootReq :=
  (SameControl.routeMouse _ _ _ (.hidMrel s dx dy)).respond_rebootReq _

/-- No frame cancels the request. -/
theorem State.handle_rebootReq {s : State} (f : Frame) (h : s.cdr.rebootReq = true) :
    (s.handle f).cdr.rebootReq = true :=
  State.handle_rec (P := fun t => t.cdr.rebootReq = true) f h h
    (fun m => by rw [cmdSetKbd_rebootReq, h, Bool.true_or]) (fun m => by rw [cmdSetMouse_rebootReq, h, Bool.true_or])
    h h (fun _ _ => (cmdKey_rebootReq s _ _).trans h) (fun _ _ => (cmdMouseAbs_rebootReq s _ _).trans h)
    (fun _ _ => (cmdMouseBtn_rebootReq s _ _).trans h) (fun _ _ => (cmdMouseWheel_rebootReq s _ _).trans h)
    (fun _ _ => (cmdMouseRel_rebootReq s _ _).trans h) h h

theorem State.linkByte_rebootReq {s : State} (b : Byte) (h : s.cdr.rebootReq = true) :
    (s.linkByte b).cdr.rebootReq = true := by
  simp only [State.linkByte]
  split
  · exact h
  · exact handle_rebootReq _ h

theorem State.linkTick_rebootReq (s : State) : s.linkTick.cdr.rebootReq = s.cdr.rebootReq := by
  unfold State.linkTick
  repeat' split
  all_goals rfl

/-- Apart from the mode commands, and a link byte that may complete one, an instruction keeps the request as it is. -/
theorem exec_rebootReq {i : Instr} {s t : State} (hr : ∀ m, i ≠ .reset m) (h : exec i s = .next t)
    (hk : ∀ m, i ≠ .cmdSetKbd m) (hm : ∀ m, i ≠ .cmdSetMouse m) (hb : ∀ b, i ≠ .linkByte b) :
    t.cdr.rebootReq = s.cdr.rebootReq := by
  cases hf : (footprint (decide (s.fcv.fidx = 7)) i).cdr with
  | false => rw [(exec_within hr h).cdr hf]
  | true =>
    cases i with
    | cmdSetKbd m => exact absurd rfl (hk m)
    | cmdSetMouse m => exact absurd rfl (hm m)
    | linkByte b => exact absurd rfl (hb b)
    | cmdPing | cmdRepeat | cmdSetConnected | cmdClearHid | cmdUnknown c | frameInvalid f => cases h; rfl
    | cmdKey code pressed => cases h; exact State.cmdKey_rebootReq s code pressed
    | cmdMouseAbs x y => cases h; exact State.cmdMouseAbs_rebootReq s x y
    | cmdMouseBtn sel st => cases h; exact State.cmdMouseBtn_rebootReq s sel st
    | cmdMouseWheel hz v => cases h; exact State.cmdMouseWheel_rebootReq s hz v
    | cmdMouseRel dx dy => cases h; exact State.cmdMouseRel_rebootReq s dx dy
    | linkTickMs => cases h; exact State.linkTick_rebootReq s
    | _ => cases hf

/-- Settles O55: the three instructions that can set the request never clear it, and every other one keeps it. -/
theorem rebootRequestIsCancelledOnlyByReset : Obligations.RebootRequestIsCancelledOnlyByReset := by
  intro i s t h hr
  by_cases hset : (∃ m, i = .cmdSetKbd m ∨ i = .cmdSetMouse m) ∨ ∃ b, i = .linkByte b
  · refine ⟨fun hs => ?_, fun _ _ => hset⟩
    obtain ⟨m, rfl | rfl⟩ | ⟨b, rfl⟩ := hset
    · cases h
      rw [State.cmdSetKbd_rebootReq, hs, Bool.true_or]
    · cases h
      rw [State.cmdSetMouse_rebootReq, hs, Bool.true_or]
    · cases h
      exact State.linkByte_rebootReq b hs
  · have heq : t.cdr.rebootReq = s.cdr.rebootReq := exec_rebootReq hr h
      (fun m he => hset (.inl ⟨m, .inl he⟩)) (fun m he => hset (.inl ⟨m, .inr he⟩)) (fun b he => hset (.inr ⟨b, he⟩))
    exact ⟨heq.trans, fun hs ht => absurd (heq.symm.trans ht) (by simp [hs])⟩

end Sys2Proof.Machine

/-! PROOFS. The block's invariant: every unit's operations keep that unit's part of it, `RESET` establishes it, and so
every step keeps it. -/

namespace Sys2Proof.Machine

/-! ### A PHY line -/

theorem isPs2Frame_ps2Frame (b : Byte) : IsPs2Frame (ps2Frame b) := by
  rw [IsPs2Frame, ps2Frame, frameData_lineFrame, ps2Frame]

/-- An initialised line with the invariant; on any other one no PHY operation but `PS2_INIT` acts (rule R181). -/
structure Phy.Live (c : Config) (p : Phy) : Prop where
  inited : p.inited = true
  inv : p.Inv c

namespace Phy.Live

variable {c : Config} {p : Phy}

theorem initialised (c : Config) : Live c Phy.initialised :=
  ⟨rfl, ⟨Nat.zero_le _, Nat.zero_le _, Nat.zero_le _, Nat.zero_le _⟩, nofun, Nat.zero_le _, nofun,
    ⟨Nat.zero_le _, Nat.zero_le _, rfl, fun _ => rfl, nofun, nofun⟩, nofun⟩

/-- New queues and counters within their bounds. -/
theorem withQueues (h : Live c p) {byteq : List Byte} {packq : List Packet} {sent : Nat} (lastTx lastRx : Byte)
    (hb : byteq.length ≤ c.byteqDepth) (hp : packq.length ≤ c.packqDepth)
    (hpk : ∀ pk ∈ packq, 1 ≤ pk.bytes.length ∧ pk.bytes.length ≤ c.packMax)
    (hs : sent ≤ (packq.head?.elim 0 fun pk => pk.bytes.length)) :
    Live c { p with byteq := byteq, packq := packq, sent := sent, lastTx := lastTx, lastRx := lastRx } := by
  obtain ⟨hi, ⟨-, -, ht, hr⟩, -, -, hf, he, -⟩ := h
  exact ⟨hi, ⟨hb, hp, ht, hr⟩, hpk, hs, hf, he, by simp [hi]⟩

/-- A new transmit FIFO of PS/2 frames, and any sticky flags. -/
theorem withTxf (h : Live c p) {txf : List LineFrame} (err rxFerr : Bool) (ht : txf.length ≤ c.txfDepth)
    (hf : ∀ f ∈ txf, IsPs2Frame f) : Live c { p with txf := txf, err := err, rxFerr := rxFerr } := by
  obtain ⟨hi, ⟨hb, hp, -, hr⟩, hpk, hs, -, he, -⟩ := h
  exact ⟨hi, ⟨hb, hp, ht, hr⟩, hpk, hs, hf, he, by simp [hi]⟩

theorem withFlags (h : Live c p) (err rxFerr : Bool) : Live c { p with err := err, rxFerr := rxFerr } := by
  obtain ⟨⟨-, -, ht, -⟩, -, -, hf, -, -⟩ := h.inv
  exact h.withTxf err rxFerr ht hf

theorem withRxf (h : Live c p) {rxf : List RxWord} (hr : rxf.length ≤ c.rxfDepth) : Live c { p with rxf := rxf } := by
  obtain ⟨hi, ⟨hb, hp, ht, -⟩, hpk, hs, hf, he, -⟩ := h
  exact ⟨hi, ⟨hb, hp, ht, hr⟩, hpk, hs, hf, he, by simp [hi]⟩

theorem withEng (h : Live c p) {e : Eng} (he : e.Inv c) : Live c { p with eng := e } := by
  obtain ⟨hi, hq, hpk, hs, hf, -, -⟩ := h
  exact ⟨hi, hq, hpk, hs, hf, he, by simp [hi]⟩

/-! #### The task -/

theorem pushTx (h : Live c p) {f : LineFrame} (hf : IsPs2Frame f) : Live c (p.pushTx c f) := by
  obtain ⟨⟨-, -, ht, -⟩, -, -, htx, -, -⟩ := h.inv
  refine h.withTxf p.err p.rxFerr (pushed_length_le f ht) fun g hg => ?_
  obtain hg | rfl := mem_pushed hg
  · exact htx g hg
  · exact hf

/-- A packet joins at the tail, so that progress within the head packet stays in bounds. -/
theorem taskPacketise (h : Live c p) (hc : 1 ≤ c.packMax) (d : Dev) : Live c (taskPacketise c d p).1 := by
  obtain ⟨⟨hb, hp, -, -⟩, hpk, hs, -⟩ := h.inv
  unfold Machine.taskPacketise
  split
  · exact h
  · next hne =>
    have hlen : 0 < p.byteq.length := List.length_pos_iff.2 hne
    refine h.withQueues p.lastTx p.lastRx ?_ (pushed_length_le _ hp) (fun pk hm => ?_) ?_
    · rw [List.length_drop]
      omega
    · obtain hm | rfl := mem_pushed hm
      · exact hpk pk hm
      · rw [List.length_take]
        omega
    · cases hq : p.packq with
      | nil =>
        rw [Phy.ProgressInv, hq] at hs
        exact hs.trans (Nat.zero_le _)
      | cons pk rest =>
        rw [Phy.ProgressInv, hq] at hs
        unfold pushed
        split <;> exact hs

theorem taskTransmit (h : Live c p) : Live c (taskTransmit c p) := by
  obtain ⟨⟨hb, hp, -, -⟩, hpk, hs, -⟩ := h.inv
  unfold Machine.taskTransmit
  split
  · exact h
  · next pk rest hq =>
    rw [hq] at hp hpk
    split
    · split
      · exact h.withQueues p.lastTx p.lastRx hb (Nat.le_of_succ_le hp) (fun q hm => hpk q (.tail _ hm)) (Nat.zero_le _)
      · split
        · next b hget =>
          have hlt : p.sent < pk.bytes.length := (List.getElem?_eq_some_iff.1 hget).1
          have hsent : p.sent + 1 ≤ p.packq.head?.elim 0 fun pk => pk.bytes.length := by simpa [hq] using hlt
          rw [← hq] at hp hpk
          exact (h.withQueues b p.lastRx hb hp hpk hsent).pushTx (isPs2Frame_ps2Frame b)
        · exact h
    · exact h

theorem taskRecover (h : Live c p) : Live c (taskRecover p) := by
  obtain ⟨⟨hb, hp, -, -⟩, hpk, -⟩ := h.inv
  unfold Machine.taskRecover
  split
  · exact (h.withQueues p.lastTx p.lastRx hb hp hpk (Nat.zero_le _)).withTxf false p.rxFerr (Nat.zero_le _) nofun
  · exact h

theorem taskNak (h : Live c p) (d : Dev) : Live c (taskNak c d p).1 := by
  unfold Machine.taskNak
  split
  · exact (h.pushTx (isPs2Frame_ps2Frame _)).withFlags p.err false
  · exact h

theorem taskHead (h : Live c p) (hc : 1 ≤ c.packMax) (d : Dev) : Live c (taskHead c d p).phy :=
  (h.taskPacketise hc d).taskTransmit.taskRecover.taskNak d

/-- Delivery of a received byte drops what was to be sent (rule R193). -/
theorem deliver (h : Live c p) (data : Byte) :
    Live c { p with byteq := [], packq := [], sent := 0, lastRx := data } :=
  h.withQueues p.lastTx data (Nat.zero_le _) (Nat.zero_le _) nofun (Nat.zero_le _)

/-! #### The engine -/

theorem eng (h : Live c p) : p.eng.Inv c := by
  obtain ⟨-, -, -, -, -, he, -⟩ := h
  exact he

theorem toIdle (h : Live c p) : Live c p.toIdle := by
  obtain ⟨hbit, -, hclk, -⟩ := h.eng
  exact h.withEng ⟨hbit, Nat.zero_le _, hclk, fun _ => rfl, nofun, nofun⟩

theorem startFrame (h : Live c p) {f : LineFrame} (hf : IsPs2Frame f) : Live c (Phy.startFrame c p f) := by
  obtain ⟨-, hidle, hclk, -⟩ := h.eng
  exact h.withEng ⟨Nat.zero_le _, (startedCount_le c _).trans hidle, hclk, fun hn => absurd rfl hn,
    fun _ => ⟨Nat.zero_le _, hf⟩, nofun⟩

/-- A new idle count, in `IDLE`. -/
theorem withIdleCnt (h : Live c p) (hst : p.eng.st = .idle) {n : Nat} (hn : n ≤ c.idleHold) :
    Live c { p with eng := { p.eng with idleCnt := n } } := by
  obtain ⟨hbit, -, hclk, hdata, -, -⟩ := h.eng
  exact h.withEng ⟨hbit, hn, hclk, hdata, by simp [hst], by simp [hst]⟩

/-- The next slot of a reception. -/
theorem withSlot (h : Live c p) (hst : p.eng.st = .receiving) (rxSh : Byte) (rxPar rxStop : Bool) {n : Nat}
    (h1 : 1 ≤ n) (h11 : n ≤ 11) :
    Live c { p with eng := { p.eng with rxSh := rxSh, rxPar := rxPar, rxStop := rxStop, bitn := n } } := by
  obtain ⟨-, hidle, hclk, hdata, -, -⟩ := h.eng
  exact h.withEng ⟨h11, hidle, hclk, hdata, by simp [hst], fun _ => h1⟩

theorem engIdle (h : Live c p) (hst : p.eng.st = .idle) (d : Dev) (hClk hData : Bool) :
    Live c (engIdle c d p hClk hData).phy := by
  have hcount : Live c (p.countIdle c) := h.withIdleCnt hst (Nat.min_le_right _ _)
  obtain ⟨⟨-, -, htx, -⟩, -, -, hf, -, -⟩ := h.inv
  cases hClk with
  | false => exact h.withIdleCnt hst (Nat.zero_le _)
  | true =>
    cases hData with
    | false =>
      obtain ⟨-, -, hclk, hdata, -, -⟩ := h.eng
      exact h.withEng ⟨Nat.le_add_left 1 10, Nat.zero_le _, hclk, fun _ => hdata (by simp [hst]), nofun, fun _ => Nat.le_refl _⟩
    | true =>
      simp only [Machine.engIdle, engIdleHigh, if_true]
      split
      · next f rest ht =>
        rw [ht] at htx hf
        split
        · exact (hcount.withTxf p.err p.rxFerr (Nat.le_of_succ_le htx) (fun g hg => hf g (.tail _ hg))).startFrame
            (hf f (.head _))
        · exact hcount
      · exact hcount

theorem engTransmitting (h : Live c p) (hst : p.eng.st = .transmitting) {d : Dev} {hClk hData : Bool} {o : PhyOut}
    (ho : engTransmitting d p hClk hData = some o) : Live c o.phy := by
  obtain ⟨-, hidle, hclk, -, htx, -⟩ := h.eng
  obtain ⟨-, hframe⟩ := htx hst
  unfold Machine.engTransmitting at ho
  split at ho
  · split at ho
    · next hbit =>
      cases ho
      exact h.withEng ⟨by dsimp only; omega, hidle, hclk, fun hn => absurd hst hn, fun _ => ⟨by dsimp only; omega, hframe⟩,
        by simp [hst]⟩
    · split at ho
      · cases ho
        exact h.toIdle
      · cases ho
  · cases ho
    exact (h.withFlags true p.rxFerr).toIdle

theorem engReceiving (h : Live c p) (hst : p.eng.st = .receiving) {d : Dev} {hClk hData : Bool} {o : PhyOut}
    (ho : engReceiving c d p hClk hData = some o) : Live c o.phy := by
  obtain ⟨⟨-, -, -, hrx⟩, -⟩ := h.inv
  unfold Machine.engReceiving at ho
  split at ho
  · split at ho
    · cases ho
    split at ho
    · cases ho
      exact h.withSlot hst _ _ _ (Nat.le_add_left 1 _) (by omega)
    split at ho
    · cases ho
      exact h.withSlot hst _ _ _ (by decide) (by decide)
    split at ho
    · cases ho
      exact h.withSlot hst _ _ _ (by decide) (by decide)
    split at ho
    · cases ho
      split
      · exact (h.withRxf (pushed_length_le _ hrx)).toIdle
      · exact (h.withFlags p.err true).toIdle
    · cases ho
  · cases ho
    exact h.toIdle

theorem engSlot (h : Live c p) {d : Dev} {hClk hData : Bool} {o : PhyOut}
    (ho : engSlot c d p hClk hData = some o) : Live c o.phy := by
  unfold Machine.engSlot at ho
  split at ho
  · next hst =>
    cases ho
    exact h.engIdle hst d hClk hData
  · next hst => exact h.engTransmitting hst ho
  · next hst => exact h.engReceiving hst ho

end Phy.Live

/-! ### The two interfaces -/

theorem Iface.Inv.sent {c : Config} {x : Iface} (h : x.Inv c) : x.sent.Inv c := h

/-- One sample keeps the hysteresis counter below its threshold, and at 0 while the interface is offline. -/
theorem Iface.Inv.tick {c : Config} {x : Iface} (h : x.Inv c) (ready : Bool) : (x.tick c.hystMs ready).Inv c := by
  obtain ⟨hlt, hoff⟩ := h
  have hpos : 0 < c.hystMs := Nat.zero_lt_of_lt hlt
  unfold Iface.tick Iface.sampledUnready
  split
  · exact ⟨hpos, nofun⟩
  split
  · next hon =>
    split
    · exact ⟨hpos, fun _ => rfl⟩
    · next hn => exact ⟨Nat.lt_of_not_le hn, fun he => absurd (hon.symm.trans he) (by decide)⟩
  · exact ⟨hlt, hoff⟩

/-! #### The keyboard -/

theorem keysInv_zero : KeysInv #v[0, 0, 0, 0, 0, 0] := by decide

/-- A code held nowhere, and no modifier, may take any slot. -/
theorem KeysInv.set {keys : Vector Byte 6} (h : KeysInv keys) {code : Byte} (hfree : ∀ j : Fin 6, keys[j] ≠ code)
    (hm : isModifier code = false) (k : Fin 6) : KeysInv (keys.set k code) := by
  obtain ⟨hinj, hmod⟩ := h
  have hget : ∀ j : Fin 6, (keys.set k code)[j] = if k = j then code else keys[j] := by
    intro j
    simp [Vector.getElem_set, Fin.ext_iff]
  refine ⟨fun i j hne heq => ?_, fun j => ?_⟩
  · rw [hget] at hne
    rw [hget, hget] at heq
    split at heq <;> split at heq
    · next hi hj => exact hi.symm.trans hj
    · exact absurd heq.symm (hfree j)
    · exact absurd heq (hfree i)
    · next hi _ => exact hinj i j (by simpa [hi] using hne) heq
  · rw [hget]
    split
    · exact hm
    · exact hmod j

theorem KeysInv.press {keys : Vector Byte 6} (h : KeysInv keys) (policy : KeyPolicy) {code : Byte}
    (hm : isModifier code = false) : KeysInv (pressSlots policy keys code) := by
  unfold pressSlots
  split
  · exact h
  · next hnone =>
    have hfree := findSlot_eq_none.1 hnone
    split
    · exact h.set hfree hm _
    · split
      · exact h.set hfree hm 0
      · exact h

theorem KeysInv.release {keys : Vector Byte 6} (h : KeysInv keys) (code : Byte) : KeysInv (releaseSlots keys code) := by
  obtain ⟨hinj, hmod⟩ := h
  refine ⟨fun i j hne heq => ?_, fun j => ?_⟩
  · rw [releaseSlots_get] at hne
    rw [releaseSlots_get, releaseSlots_get] at heq
    split at heq
    · next hi => exact absurd (if_pos hi) hne
    · next hi =>
      rw [if_neg hi] at hne
      split at heq
      · exact absurd heq hne
      · exact hinj i j hne heq
  · rw [releaseSlots_get]
    split
    · decide
    · exact hmod j

/-- A cleared keyboard has its invariant in every mode. -/
theorem Kbd.Inv.clear {c : Config} {mode : KbdMode} {k : Kbd} (h : k.Inv c mode) (mode' : KbdMode) :
    k.clear.Inv c mode' := by
  obtain ⟨-, hif, -⟩ := h
  exact ⟨keysInv_zero, hif, fun _ => ⟨rfl, rfl⟩⟩

theorem Kbd.Inv.withIface {c : Config} {mode : KbdMode} {k : Kbd} (h : k.Inv c mode) {x : Iface} (hx : x.Inv c) :
    Kbd.Inv c mode { k with toIface := x } := by
  obtain ⟨hkeys, -, hmode⟩ := h
  exact ⟨hkeys, hx, hmode⟩

theorem Kbd.Inv.modifierKey {c : Config} {k : Kbd} (h : k.Inv c .usb) (code : Byte) (pressed : Bool) :
    (k.modifierKey code pressed).Inv c .usb := by
  obtain ⟨hkeys, hif, -⟩ := h
  exact ⟨hkeys, hif, fun hn => absurd rfl hn⟩

theorem Kbd.Inv.regularKey {c : Config} {k : Kbd} (h : k.Inv c .usb) (policy : KeyPolicy) {code : Byte}
    (hm : isModifier code = false) (pressed : Bool) : (k.regularKey policy code pressed).Inv c .usb := by
  obtain ⟨hkeys, hif, -⟩ := h
  refine ⟨?_, hif, fun hn => absurd rfl hn⟩
  cases pressed with
  | false => exact hkeys.release code
  | true => exact hkeys.press policy hm

/-! #### The mouse -/

/-- Bits 7..5 of the operands never reach the buttons (rule R240). -/
theorem buttonsAfter_and_upper {buttons : Byte} (h : buttons &&& 0xE0#8 = 0) (sel st : Byte) :
    buttonsAfter buttons sel st &&& 0xE0#8 = 0 := by
  have hmask : 0x1F#8 &&& 0xE0#8 = 0#8 := by decide
  calc buttonsAfter buttons sel st &&& 0xE0#8
    _ = ((buttons &&& 0xE0#8) &&& ~~~(sel &&& 0x1F#8)) ||| (st &&& (sel &&& (0x1F#8 &&& 0xE0#8))) := by
      ext i
      simp only [buttonsAfter, BitVec.getElem_or, BitVec.getElem_and, BitVec.getElem_not]
      grind
    _ = 0 := by simp [h, hmask]

theorem Mouse.Inv.clear {c : Config} {mode : MouseMode} {m : Mouse} (h : m.Inv c mode) (mode' : MouseMode) :
    m.clear.Inv c mode' := by
  obtain ⟨-, hif, -⟩ := h
  exact ⟨by simp [Mouse.clear], hif, fun _ => ⟨rfl, rfl⟩, fun _ => ⟨rfl, rfl⟩, fun _ => ⟨rfl, rfl⟩⟩

theorem Mouse.Inv.withIface {c : Config} {mode : MouseMode} {m : Mouse} (h : m.Inv c mode) {x : Iface} (hx : x.Inv c) :
    Mouse.Inv c mode { m with toIface := x } := by
  obtain ⟨hbtn, -, habs, hrel, husb⟩ := h
  exact ⟨hbtn, hx, habs, hrel, husb⟩

theorem Mouse.Inv.afterSend {c : Config} {mode : MouseMode} {m : Mouse} (h : m.Inv c mode) : m.afterSend.Inv c mode := by
  obtain ⟨hbtn, hif, habs, -, husb⟩ := h
  refine ⟨hbtn, hif.sent, habs, fun _ => ⟨rfl, rfl⟩, fun hn => ?_⟩
  obtain ⟨hb, -⟩ := husb hn
  exact ⟨hb, rfl⟩

/-! ### Reset -/

theorem kbdAvailable_bootKbd (c : Config) (m : Byte) : kbdAvailable c (bootKbd c m) = true := by
  unfold bootKbd
  cases hs : selectKbd c (m.extractLsb' c.layout.kbdLo 3) with
  | none => rfl
  | some k =>
    obtain ⟨-, ha⟩ := selectKbd_eq_some.1 hs
    exact ha

theorem mouseAvailable_bootMouse (c : Config) (m : Byte) : mouseAvailable c (bootMouse c m) = true := by
  unfold bootMouse
  cases hs : selectMouse c (m.extractLsb' c.layout.mouseLo 3) with
  | none => rfl
  | some k =>
    obtain ⟨-, ha⟩ := selectMouse_eq_some.1 hs
    exact ha

theorem Phy.inv_reset (c : Config) : Phy.reset.Inv c :=
  ⟨⟨Nat.zero_le _, Nat.zero_le _, Nat.zero_le _, Nat.zero_le _⟩, nofun, Nat.zero_le _, nofun,
    ⟨Nat.zero_le _, Nat.zero_le _, rfl, fun _ => rfl, nofun, nofun⟩, fun _ => rfl⟩

theorem State.inv_resetWith {c : Config} (hc : c.Wf) (m : Byte) : (State.resetWith c m).Inv := by
  have ⟨_, ⟨_, hhyst⟩, _⟩ := hc
  exact ⟨hc, Phy.inv_reset c, Phy.inv_reset c, ⟨kbdAvailable_bootKbd c m, mouseAvailable_bootMouse c m⟩,
    ⟨keysInv_zero, ⟨hhyst, fun _ => rfl⟩, fun _ => ⟨rfl, rfl⟩⟩,
    ⟨by simp [resetWith, Mouse.reset], ⟨hhyst, fun _ => rfl⟩, fun _ => ⟨rfl, rfl⟩, fun _ => ⟨rfl, rfl⟩,
      fun _ => ⟨rfl, rfl⟩⟩,
    ⟨.inl rfl, fun _ => rfl⟩, .inl (.head _)⟩

/-- Settles O59: the reset values meet every part, the boot modes being available ones, and the default parameters are
allowed. -/
theorem resetStateHasTheInvariant : Obligations.ResetStateHasTheInvariant :=
  ⟨fun _ m hc => State.inv_resetWith hc m, State.inv_resetWith (by decide) Config.bootActive⟩

/-! ### The whole block -/

/-- A status with `ST_OK` in it has bit 7 set (rule R304). -/
theorem State.okStatus_bit7 {s : State} (hok : s.cfg.st.ok = 0x80) : s.okStatus.getLsbD 7 = true := by
  simp [State.okStatus, hok]

namespace State.Inv

variable {s : State}

/-! #### One register at a time -/

theorem emit (h : s.Inv) (e : Event) : (s.emit e).Inv := h

theorem raise (h : s.Inv) (e : ErrEvent) : (s.raise e).Inv := h

theorem returning (h : s.Inv) (b : Bool) : (s.returning b).Inv := h

theorem takeWord (h : s.Inv) (rest : List OpWord) : (s.takeWord rest).Inv := h

theorem withKbd (h : s.Inv) {k : Kbd} (hk : k.Inv s.cfg s.out.kbdMode) : State.Inv { s with kbd := k } := by
  obtain ⟨hcfg, hphy0, hphy1, hout, -, hmouse, hfcv, hcdr⟩ := h
  exact ⟨hcfg, hphy0, hphy1, hout, hk, hmouse, hfcv, hcdr⟩

theorem withMouse (h : s.Inv) {m : Mouse} (hm : m.Inv s.cfg s.out.mouseMode) : State.Inv { s with mouse := m } := by
  obtain ⟨hcfg, hphy0, hphy1, hout, hkbd, -, hfcv, hcdr⟩ := h
  exact ⟨hcfg, hphy0, hphy1, hout, hkbd, hm, hfcv, hcdr⟩

theorem withFcv (h : s.Inv) {f : Fcv} (hf : f.Inv s.cfg) : State.Inv { s with fcv := f } := by
  obtain ⟨hcfg, hphy0, hphy1, hout, hkbd, hmouse, -, hcdr⟩ := h
  exact ⟨hcfg, hphy0, hphy1, hout, hkbd, hmouse, hf, hcdr⟩

theorem withCdr (h : s.Inv) {r : Cdr} (hr : r.Inv s.cfg) : State.Inv { s with cdr := r } := by
  obtain ⟨hcfg, hphy0, hphy1, hout, hkbd, hmouse, hfcv, -⟩ := h
  exact ⟨hcfg, hphy0, hphy1, hout, hkbd, hmouse, hfcv, hr⟩

theorem setPhy (h : s.Inv) (d : Dev) {p : Phy} (hp : p.Inv s.cfg) : (s.setPhy d p).Inv := by
  obtain ⟨hcfg, hphy0, hphy1, hrest⟩ := h
  cases d
  · exact ⟨hcfg, hp, hphy1, hrest⟩
  · exact ⟨hcfg, hphy0, hp, hrest⟩

theorem applyPhy (h : s.Inv) (d : Dev) {o : PhyOut} (ho : o.phy.Inv s.cfg) : (s.applyPhy d o).Inv := h.setPhy d ho

theorem raiseIf (h : s.Inv) (b : Bool) (e : ErrEvent) : (s.raiseIf b e).Inv := ite_of (h.raise e) h

theorem cfg (h : s.Inv) : s.cfg.Wf := by
  obtain ⟨hcfg, -⟩ := h
  exact hcfg

theorem cdr (h : s.Inv) : s.cdr.Inv s.cfg := by
  obtain ⟨-, -, -, -, -, -, -, hcdr⟩ := h
  exact hcdr

theorem kbd (h : s.Inv) : s.kbd.Inv s.cfg s.out.kbdMode := by
  obtain ⟨-, -, -, -, hkbd, -⟩ := h
  exact hkbd

theorem mouse (h : s.Inv) : s.mouse.Inv s.cfg s.out.mouseMode := by
  obtain ⟨-, -, -, -, -, hmouse, -⟩ := h
  exact hmouse

theorem live (h : s.Inv) {d : Dev} (hi : (s.phy d).inited = true) : (s.phy d).Live s.cfg := by
  obtain ⟨-, hphy0, hphy1, -⟩ := h
  cases d
  · exact ⟨hi, hphy0⟩
  · exact ⟨hi, hphy1⟩

theorem one_le_packMax (h : s.Inv) : 1 ≤ s.cfg.packMax := by
  obtain ⟨⟨-, hpack, -⟩, -⟩ := h.cfg
  exact hpack

/-! #### The report operations -/

theorem hidKey (h : s.Inv) (code : Byte) (pressed : Bool) : (s.hidKey code pressed).Inv := by
  have hk := h.kbd
  unfold State.hidKey
  split
  · exact h
  · next hmode =>
    have husb : s.out.kbdMode = .usb := not_not.1 hmode
    rw [husb] at hk
    split
    · exact h
    · split
      · exact h.withKbd (by rw [husb]; exact hk.modifierKey code pressed)
      · next hm => exact h.withKbd (by rw [husb]; exact hk.regularKey _ (by simpa using hm) pressed)

theorem hidMbtn (h : s.Inv) (sel st : Byte) : (s.hidMbtn sel st).Inv := by
  obtain ⟨hbtn, hif, habs, hrel, -⟩ := h.mouse
  unfold State.hidMbtn
  split
  · next hc =>
    obtain ⟨husb, -⟩ := hc
    exact h.withMouse ⟨buttonsAfter_and_upper hbtn sel st, hif, habs, hrel, by simp [husb]⟩
  · exact h

theorem hidMabs (h : s.Inv) (x y : Half) : (s.hidMabs x y).Inv := by
  obtain ⟨hbtn, hif, -, hrel, husb⟩ := h.mouse
  unfold State.hidMabs
  split
  · next hc =>
    obtain ⟨habs, -⟩ := hc
    exact h.withMouse ⟨hbtn, hif, by simp [habs], hrel, husb⟩
  · exact h

theorem hidMrel (h : s.Inv) (dx dy : Byte) : (s.hidMrel dx dy).Inv := by
  obtain ⟨hbtn, hif, habs, -, husb⟩ := h.mouse
  unfold State.hidMrel
  split
  · next hc =>
    obtain ⟨hrel, -⟩ := hc
    exact h.withMouse ⟨hbtn, hif, habs, by simp [hrel], husb⟩
  · exact h

theorem hidMwheel (h : s.Inv) (hz v : Byte) : (s.hidMwheel hz v).Inv := by
  obtain ⟨hbtn, hif, habs, hrel, -⟩ := h.mouse
  unfold State.hidMwheel
  split
  · next hc =>
    obtain ⟨husb, -⟩ := hc
    exact h.withMouse ⟨hbtn, hif, habs, hrel, by simp [husb]⟩
  · exact h

theorem hidClear (h : s.Inv) : s.hidClear.Inv := (h.withKbd (h.kbd.clear _)).withMouse (h.mouse.clear _)

theorem hidTick (h : s.Inv) (kr mr : Bool) : (s.hidTick kr mr).Inv := by
  obtain ⟨-, hkif, -⟩ := h.kbd
  obtain ⟨-, hmif, -⟩ := h.mouse
  exact (h.withKbd (h.kbd.withIface (hkif.tick kr))).withMouse (h.mouse.withIface (hmif.tick mr))

theorem syncKbd (h : s.Inv) (susp ready ok : Bool) : (s.syncKbd susp ready ok).Inv := by
  obtain ⟨-, hif, -⟩ := h.kbd
  exact ite_of (ite_of (h.raise _)
    (ite_of (ite_of ((h.emit _).withKbd (h.kbd.withIface hif.sent)) ((h.emit _).raise _)) (h.raise _))) h

theorem syncMouse (h : s.Inv) (susp ready ok : Bool) : (s.syncMouse susp ready ok).Inv :=
  ite_of (ite_of (h.raise _) (ite_of (ite_of ((h.emit _).withMouse h.mouse.afterSend) ((h.emit _).raise _)) (h.raise _))) h

theorem hidSync (h : s.Inv) (susp kr mr ko mo : Bool) : (s.hidSync susp kr mr ko mo).Inv :=
  have h2 := (h.syncKbd susp kr ko).syncMouse susp mr mo
  ite_of (h2.emit _) h2

/-! #### Output selection -/

theorem switchKbd (h : s.Inv) {m : KbdMode} (ha : kbdAvailable s.cfg m = true) : (s.switchKbd m).Inv := by
  obtain ⟨hcfg, hphy0, hphy1, ⟨-, hmouseMode⟩, hkbd, hmouse, hrest⟩ := h
  exact ⟨hcfg, hphy0, hphy1, ⟨ha, hmouseMode⟩, hkbd.clear m, hmouse.clear _, hrest⟩

theorem switchMouse (h : s.Inv) {m : MouseMode} (ha : mouseAvailable s.cfg m = true) : (s.switchMouse m).Inv := by
  obtain ⟨hcfg, hphy0, hphy1, ⟨hkbdMode, -⟩, hkbd, hmouse, hrest⟩ := h
  exact ⟨hcfg, hphy0, hphy1, ⟨hkbdMode, ha⟩, hkbd.clear _, hmouse.clear m, hrest⟩

theorem outSetKbd (h : s.Inv) (m : ModeCode) : (s.outSetKbd m).1.Inv := by
  unfold State.outSetKbd
  split
  · next hs =>
    obtain ⟨-, ha⟩ := selectKbd_eq_some.1 hs
    exact h.switchKbd ha
  · exact h.raise _

theorem outSetMouse (h : s.Inv) (m : ModeCode) : (s.outSetMouse m).1.Inv := by
  unfold State.outSetMouse
  split
  · next hs =>
    obtain ⟨-, ha⟩ := selectMouse_eq_some.1 hs
    exact h.switchMouse ha
  · exact h.raise _

/-! #### Commands -/

/-- A flag byte, the stored status or one of the four plain codes may be stored. -/
theorem respond (h : s.Inv) (new : NewStatus)
    (hcode : ∀ b, new = .code b → b ∈ [s.cfg.st.noneYet, s.cfg.st.cksumErr, s.cfg.st.invalid, s.cfg.st.timeout]) :
    (s.respond new).Inv := by
  obtain ⟨-, -, -, ⟨-, -, -, -, hok⟩, -⟩ := h.cfg
  refine (h.emit _).withCdr ?_
  cases new with
  | none => exact h.cdr
  | ok => exact .inr (State.okStatus_bit7 hok)
  | code b => exact .inl (hcode b rfl)

theorem respondOk (h : s.Inv) : (s.respond .ok).Inv := h.respond .ok nofun

theorem requestReboot (h : s.Inv) (b : Bool) : (s.requestReboot b).Inv := h.withCdr h.cdr

theorem routeKey (h : s.Inv) (code : Byte) (pressed : Bool) : (s.routeKey code pressed).Inv := by
  unfold State.routeKey
  split
  · exact h.hidKey code pressed
  · exact h.emit _
  · exact h

theorem routeMouse {usb : State} (h : s.Inv) (kind : MouseKind) (a b : Half) (husb : usb.Inv) :
    (s.routeMouse kind a b usb).Inv :=
  ite_of (h.emit _) husb

theorem frameInvalid (h : s.Inv) : s.frameInvalid.Inv :=
  (h.raise _).respond _ (by rintro b ⟨⟩; exact .tail _ (.head _))

theorem cmdUnknown (h : s.Inv) : s.cmdUnknown.Inv :=
  (h.raise _).respond _ (by rintro b ⟨⟩; exact .tail _ (.tail _ (.head _)))

theorem linkTimeout (h : s.Inv) : s.linkTimeout.Inv :=
  (h.raise _).hidClear.respond _ (by rintro b ⟨⟩; exact .tail _ (.tail _ (.tail _ (.head _))))

theorem handle (h : s.Inv) (f : Frame) : (s.handle f).Inv :=
  State.handle_rec f h.respondOk (h.respond .none nofun) (fun m => (h.outSetKbd m).respondOk.requestReboot _)
    (fun m => (h.outSetMouse m).respondOk.requestReboot _) h.respondOk h.hidClear.respondOk
    (fun code pressed => (h.routeKey code pressed).respondOk)
    (fun x y => (h.routeMouse _ _ _ (h.hidMabs x y)).respondOk)
    (fun sel st => (h.routeMouse _ _ _ (h.hidMbtn sel st)).respondOk)
    (fun hz v => (h.routeMouse _ _ _ (h.hidMwheel hz v)).respondOk)
    (fun dx dy => (h.routeMouse _ _ _ (h.hidMrel dx dy)).respondOk) h.cmdUnknown h.frameInvalid

/-! #### The link -/

theorem discardFrame (h : s.Inv) : s.discardFrame.Inv := h.withFcv ⟨.inl rfl, fun _ => rfl⟩

theorem linkByte (h : s.Inv) (b : Byte) : (s.linkByte b).Inv := by
  unfold State.linkByte
  dsimp only
  split
  · exact h.withFcv ⟨.inl rfl, fun _ => rfl⟩
  · exact handle (h.withFcv ⟨.inl rfl, fun _ => rfl⟩) _

theorem linkTick (h : s.Inv) : s.linkTick.Inv := by
  unfold State.linkTick
  split
  · exact h
  · next hidx =>
    split
    · exact h.discardFrame.linkTimeout
    · next hlt => exact h.withFcv ⟨.inr (Nat.lt_of_not_le hlt), fun he => absurd he hidx⟩

/-! #### The PHY lines -/

section
variable {d : Dev}

theorem enqueue (h : s.Inv) (hi : (s.phy d).inited = true) (b : Byte) : (s.enqueue d b).Inv := by
  have hl := h.live hi
  obtain ⟨⟨hb, hp, -, -⟩, hpk, hs, -⟩ := hl.inv
  exact ((h.setPhy d (hl.withQueues _ _ (pushed_length_le b hb) hp hpk hs).inv).raiseIf _ _).returning _

theorem rxDispatch (h : s.Inv) (hi : (s.phy d).inited = true) (w : RxWord) : (s.rxDispatch d w).Inv := by
  have hl := h.live hi
  exact ite_of (h.applyPhy d (hl.pushTx (isPs2Frame_ps2Frame _)).inv)
    (ite_of (h.applyPhy d (hl.pushTx (isPs2Frame_ps2Frame _)).inv) (h.applyPhy d (hl.deliver _).inv))

theorem taskReceive (h : s.Inv) (hi : (s.phy d).inited = true) : (s.taskReceive d).Inv := by
  have hl := h.live hi
  obtain ⟨⟨-, -, -, hrx⟩, -⟩ := hl.inv
  unfold State.taskReceive
  split
  · exact h
  · next w rest hq =>
    rw [hq] at hrx
    exact (h.setPhy d (hl.withRxf (Nat.le_of_succ_le hrx)).inv).rxDispatch (by simpa using hi) w

end

end State.Inv

/-! ### Every step -/

/-- Everything an operation word can name: a property that every operation has, and every instruction that changes
nothing, the decoded instruction has (rules R131, R132). -/
theorem decodeOpw_rec {P : Instr → Prop} (w : OpWord) (ps2Init : ∀ d, P (.ps2Init d)) (ps2Enq : ∀ d b, P (.ps2Enq d b))
    (ps2Task : ∀ d, P (.ps2Task d)) (engStep : ∀ d hClk hData, P (.engStep d hClk hData))
    (hidKey : ∀ code pressed, P (.hidKey code pressed)) (hidMbtn : ∀ sel st, P (.hidMbtn sel st))
    (hidMabs : ∀ x y, P (.hidMabs x y)) (hidMrel : ∀ dx dy, P (.hidMrel dx dy)) (hidMwheel : ∀ h v, P (.hidMwheel h v))
    (hidClear : P .hidClear) (hidTickMs : ∀ kr mr, P (.hidTickMs kr mr))
    (hidSync : ∀ susp kr mr ko mo, P (.hidSync susp kr mr ko mo)) (linkByte : ∀ b, P (.linkByte b))
    (linkTickMs : P .linkTickMs) (outSetKbd : ∀ m, P (.outSetKbd m)) (outSetMouse : ∀ m, P (.outSetMouse m))
    (linkResync : P .linkResync) (reset : ∀ m, P (.reset m)) (reserved : ∀ i, (∀ s, exec i s = .next s) → P i) :
    P (decodeOpw w) := by
  unfold decodeOpw
  split
  · exact ps2Init _
  · exact ps2Enq _ _
  · exact ps2Task _
  · exact engStep _ _ _
  · exact hidKey _ _
  · exact hidMbtn _ _
  · exact hidMabs _ _
  · exact hidMrel _ _
  · exact hidMwheel _ _
  · exact hidClear
  · exact hidTickMs _ _
  · exact hidSync _ _ _ _ _
  · exact linkByte _
  · exact linkTickMs
  · exact outSetKbd _
  · exact outSetMouse _
  · exact linkResync
  · exact reset _
  all_goals exact reserved _ fun _ => rfl

/-- Wherever the instruction goes on to, the invariant holds there. -/
def InvAfter (s : State) (i : Instr) : Prop := ∀ t, exec i s = .next t → t.Inv

namespace InvAfter

variable {s : State}

theorem of_next {i : Instr} {t : State} (he : exec i s = .next t) (h : t.Inv) : InvAfter s i := by
  intro u hu
  cases he.symm.trans hu
  exact h

theorem ps2Enq (h : s.Inv) (d : Dev) (b : Byte) : InvAfter s (.ps2Enq d b) := by
  cases hi : (s.phy d).inited with
  | false => exact of_next (if_neg (by simp [hi])) (h.returning false)
  | true => exact of_next (if_pos hi) (h.enqueue hi b)

theorem ps2Task (h : s.Inv) (d : Dev) : InvAfter s (.ps2Task d) := by
  cases hi : (s.phy d).inited with
  | false => exact of_next (if_neg (by simp [hi])) h
  | true =>
    have hl := (h.live hi).taskHead h.one_le_packMax d
    exact of_next (if_pos hi) ((h.applyPhy d hl.inv).taskReceive (by simpa using hl.inited))

theorem engStep (h : s.Inv) (d : Dev) (hClk hData : Bool) : InvAfter s (.engStep d hClk hData) := by
  cases hi : (s.phy d).inited with
  | false => exact of_next (exec_engStep_uninit hClk hData hi) h
  | true =>
    cases ho : engSlot s.cfg d (s.phy d) hClk hData with
    | none =>
      intro t ht
      cases (exec_engStep_none hi ho).symm.trans ht
    | some o => exact of_next (exec_engStep hi ho) (h.applyPhy d ((h.live hi).engSlot ho).inv)

theorem reset (h : s.Inv) (m : Byte) : InvAfter s (.reset m) := of_next rfl (State.inv_resetWith h.cfg m)

/-- Every operation word keeps the invariant. -/
theorem decodeOpw (h : s.Inv) (w : OpWord) : InvAfter s (decodeOpw w) :=
  decodeOpw_rec w (fun d => of_next rfl (h.setPhy d (Phy.Live.initialised s.cfg).inv)) (ps2Enq h) (ps2Task h) (engStep h)
    (fun code pressed => of_next rfl (h.hidKey code pressed)) (fun sel st => of_next rfl (h.hidMbtn sel st))
    (fun x y => of_next rfl (h.hidMabs x y)) (fun dx dy => of_next rfl (h.hidMrel dx dy))
    (fun hz v => of_next rfl (h.hidMwheel hz v)) (of_next rfl h.hidClear)
    (fun kr mr => of_next rfl (h.hidTick kr mr)) (fun susp kr mr ko mo => of_next rfl (h.hidSync susp kr mr ko mo))
    (fun b => of_next rfl (h.linkByte b)) (of_next rfl h.linkTick) (fun m => of_next rfl ((h.outSetKbd m).returning _))
    (fun m => of_next rfl ((h.outSetMouse m).returning _)) (of_next rfl (h.discardFrame.raise _)) (reset h)
    (fun _ hi => of_next (hi s) h)

end InvAfter

/-- Settles O58: nothing happens on an empty port, and the operation of the word taken keeps the invariant. -/
theorem stepKeepsTheStateInvariant : Obligations.StepKeepsTheStateInvariant := by
  intro s t h hstep
  cases hport : s.port with
  | nil =>
    rw [step_of_port_nil hport] at hstep
    cases hstep
    exact h
  | cons w rest =>
    rw [step_of_port_cons hport] at hstep
    exact InvAfter.decodeOpw (h.takeWord rest) w t hstep

end Sys2Proof.Machine

/-! PROOFS. The frame buffer: what each instruction of the frame validator leaves in it. -/

namespace Sys2Proof.Machine

/-- The buffer lies in the frame validator. -/
theorem State.memRead_fbuf_of_fcv_eq {s t : State} (h : t.fcv = s.fcv) (k : Fin 8) :
    t.memRead (.fbuf k) = s.memRead (.fbuf k) := by
  simp only [State.memRead, h]

/-- Handing a completed frame to `HANDLE` stores nothing: after a link byte the frame buffer reads as after the one
write at the frame index (rules R270, R271). -/
theorem State.linkByte_memRead_fbuf (s : State) (b : Byte) (k : Fin 8) :
    (s.linkByte b).memRead (.fbuf k) = (s.memWrite (.fbuf s.fcv.fidx) b).memRead (.fbuf k) := by
  unfold State.linkByte
  dsimp only
  split
  · rfl
  · exact State.memRead_fbuf_of_fcv_eq (UsbSide.handle _ _).fcv k

/-- Of the frame validator a tick moves the index and the silence count alone, also when it discards the partial frame
(rules R272, R273). -/
theorem State.linkTick_memRead_fbuf (s : State) (k : Fin 8) : s.linkTick.memRead (.fbuf k) = s.memRead (.fbuf k) := by
  unfold State.linkTick
  split
  · rfl
  · split
    · exact State.memRead_fbuf_of_fcv_eq (UsbSide.linkTimeout _).fcv k
    · rfl

/-- Settles O54: only the three instructions of the frame validator have it in their footprint, and of these only a
link byte stores to the buffer, at the frame index. -/
theorem onlyLinkByteStoresToTheFrameBuffer : Obligations.OnlyLinkByteStoresToTheFrameBuffer := by
  intro i s t h hr k hk
  cases hf : (footprint (decide (s.fcv.fidx = 7)) i).fcv with
  | false => exact State.memRead_fbuf_of_fcv_eq ((exec_within hr h).fcv hf) k
  | true =>
    obtain ⟨b, rfl⟩ | rfl | rfl := footprint_fcv hf
    · cases h
      have hne : Loc.fbuf k ≠ .fbuf s.fcv.fidx := fun e => hk b rfl (Loc.fbuf.inj e)
      exact (s.linkByte_memRead_fbuf b k).trans (s.memRead_memWrite_ne b hne)
    · cases h
      exact s.linkTick_memRead_fbuf k
    · cases h
      rfl

end Sys2Proof.Machine

/-! PROOFS. The encodings: what the decoder answers for the words of each format, and that it reads back every word the
encoder writes. -/

namespace Sys2Proof

open Machine

/-! ### Operation words -/

/-- The selectors of the eighteen operations and the operation each names, from the fields of its word (rule R131). -/
def opRows (d : Dev) (a b : Half) : List (BitVec 5 × Instr) :=
  [(0x01, .ps2Init d), (0x02, .ps2Enq d (loByte a)), (0x03, .ps2Task d),
    (0x04, .engStep d (a.getLsbD 0) (a.getLsbD 1)), (0x08, .hidKey (loByte a) (b.getLsbD 0)),
    (0x09, .hidMbtn (loByte a) (loByte b)), (0x0A, .hidMabs a b), (0x0B, .hidMrel (loByte a) (loByte b)),
    (0x0C, .hidMwheel (loByte a) (loByte b)), (0x0D, .hidClear), (0x0E, .hidTickMs (a.getLsbD 0) (a.getLsbD 1)),
    (0x0F, .hidSync (a.getLsbD 0) (a.getLsbD 1) (a.getLsbD 2) (a.getLsbD 3) (a.getLsbD 4)),
    (0x10, .linkByte (loByte a)), (0x11, .linkTickMs), (0x12, .outSetKbd (a.extractLsb' 0 3)),
    (0x13, .outSetMouse (a.extractLsb' 0 3)), (0x14, .linkResync), (0x1F, .reset (loByte a))]

/-- The fourteen reserved selectors (rule R132). -/
def reservedRows : List (BitVec 5 × Instr) :=
  [(0x00, .reserved00), (0x05, .reserved05), (0x06, .reserved06), (0x07, .reserved07), (0x15, .reserved15),
    (0x16, .reserved16), (0x17, .reserved17), (0x18, .reserved18), (0x19, .reserved19), (0x1A, .reserved1A),
    (0x1B, .reserved1B), (0x1C, .reserved1C), (0x1D, .reserved1D), (0x1E, .reserved1E)]

theorem getElem_fieldOfBits (b0 b1 b2 b3 b4 : Bool) :
    (fieldOfBits b0 b1 b2 b3 b4)[0] = b0 ∧ (fieldOfBits b0 b1 b2 b3 b4)[1] = b1 ∧
      (fieldOfBits b0 b1 b2 b3 b4)[2] = b2 ∧ (fieldOfBits b0 b1 b2 b3 b4)[3] = b3 ∧
      (fieldOfBits b0 b1 b2 b3 b4)[4] = b4 := getLsbD_fieldOfBits b0 b1 b2 b3 b4

/-- A word is decoded by its selector alone, its operands taken from its fields. -/
theorem decodeOpw_of_opSel (w : OpWord) :
    ∀ r ∈ opRows (opDev w) (opA w) (opB w) ++ reservedRows, opSel w = r.1 → decodeOpw w = r.2 := by
  simp only [opRows, reservedRows, List.cons_append, List.nil_append, List.forall_mem_cons, List.not_mem_nil,
    false_imp_iff, implies_true, and_true]
  and_intros
  all_goals
    intro h
    rw [decodeOpw, h]
    rfl

/-- An assembled word decodes to the row of its selector. -/
theorem decodeOpw_mkOpw {sel : BitVec 5} {d : Dev} {a b : Half} {i : Instr} (h : (sel, i) ∈ opRows d a b) :
    decodeOpw (mkOpw sel (devBit d) a b) = i := by
  refine decodeOpw_of_opSel _ (sel, i) (List.mem_append_left _ ?_) (opSel_mkOpw _ _ _ _)
  rwa [opDev_mkOpw, opA_mkOpw, opB_mkOpw]

theorem wf_decodeOpw (c : Config) (w : OpWord) : (decodeOpw w).wf c = true := by
  unfold decodeOpw
  split
  all_goals rfl

/-- Settles O6: the reserved rows of the decoder's table, none of which `exec` gives an effect. -/
theorem reservedSelectorsChangeNothing : Obligations.ReservedSelectorsChangeNothing := by
  intro p hp
  refine ⟨fun w => decodeOpw_of_opSel w p (List.mem_append_right _ hp), ?_⟩
  simp only [List.mem_cons, List.not_mem_nil, or_false] at hp
  obtain rfl | rfl | rfl | rfl | rfl | rfl | rfl | rfl | rfl | rfl | rfl | rfl | rfl | rfl := hp
  all_goals exact fun _ => rfl

/-! ### Requests -/

/-- The eleven command codes and the command each names, from the argument bytes (rules R122, R123). -/
def cmdRows (c : Config) (a0 a1 a2 a3 : Byte) : List (Byte × Instr) :=
  [(c.cmd.ping, .cmdPing), (c.cmd.rpt, .cmdRepeat), (c.cmd.setKbd, .cmdSetKbd (mode3 a0)),
    (c.cmd.setMouse, .cmdSetMouse (mode3 a0)), (c.cmd.setConnected, .cmdSetConnected), (c.cmd.clearHid, .cmdClearHid),
    (c.cmd.key, .cmdKey a0 (boolOf a1)), (c.cmd.mouseAbs, .cmdMouseAbs (s16Of a0 a1) (s16Of a2 a3)),
    (c.cmd.mouseBtn, .cmdMouseBtn a0 a1), (c.cmd.mouseWheel, .cmdMouseWheel a0 a1),
    (c.cmd.mouseRel, .cmdMouseRel a0 a1)]

/-- The instruction of the first row with the code `code`, or of an unknown command. -/
def firstRow (code : Byte) (rows : List (Byte × Instr)) : Instr :=
  rows.foldr (fun r i => if code = r.1 then r.2 else i) (.cmdUnknown code)

theorem decodeCmd_eq_firstRow (c : Config) (f : Frame) :
    decodeCmd c f = firstRow f[1] (cmdRows c f[2] f[3] f[4] f[5]) := rfl

/-- Where the codes are distinct, a row's code finds that row. -/
theorem firstRow_of_mem {code : Byte} {i : Instr} {rows : List (Byte × Instr)} (hn : (rows.map Prod.fst).Nodup)
    (h : (code, i) ∈ rows) : firstRow code rows = i := by
  induction rows with
  | nil => cases h
  | cons r rows ih =>
    rw [List.map_cons, List.nodup_cons] at hn
    obtain ⟨hr, hn⟩ := hn
    rcases List.mem_cons.1 h with rfl | h
    · exact if_pos rfl
    · have hne : code ≠ r.1 := by
        rintro rfl
        exact hr (List.mem_map.2 ⟨_, h, rfl⟩)
      exact (if_neg hne).trans (ih hn h)

theorem firstRow_of_not_mem {code : Byte} {rows : List (Byte × Instr)} (h : code ∉ rows.map Prod.fst) :
    firstRow code rows = .cmdUnknown code := by
  induction rows with
  | nil => rfl
  | cons r rows ih =>
    rw [List.map_cons, List.mem_cons, not_or] at h
    obtain ⟨hne, h⟩ := h
    exact (if_neg hne).trans (ih h)

/-- A sealed request is decoded by its command (rules R275, R277). -/
theorem decodeReq_mkReq (c : Config) (cmd a0 a1 a2 a3 : Byte) :
    decodeReq c (mkReq c cmd a0 a1 a2 a3) = firstRow cmd (cmdRows c a0 a1 a2 a3) :=
  if_pos (validate_mkReq c cmd a0 a1 a2 a3)

/-- A sealed request with one of the eleven codes decodes to the row of that code. -/
theorem decodeReq_mkReq_of_mem {c : Config} {cmd a0 a1 a2 a3 : Byte} {i : Instr} (hc : c.cmd.toList.Nodup)
    (h : (cmd, i) ∈ cmdRows c a0 a1 a2 a3) : decodeReq c (mkReq c cmd a0 a1 a2 a3) = i :=
  (decodeReq_mkReq c cmd a0 a1 a2 a3).trans (firstRow_of_mem hc h)

theorem decodeReq_mkReq_unknown {c : Config} {cmd : Byte} (a0 a1 a2 a3 : Byte) (h : cmd ∉ c.cmd.toList) :
    decodeReq c (mkReq c cmd a0 a1 a2 a3) = .cmdUnknown cmd :=
  (decodeReq_mkReq c cmd a0 a1 a2 a3).trans (firstRow_of_not_mem h)

theorem wf_decodeCmd (c : Config) (f : Frame) : (decodeCmd c f).wf c = true := by
  unfold decodeCmd
  repeat' split
  case isFalse => simp_all [Instr.wf, CmdCodes.toList]
  all_goals rfl

theorem wf_decodeReq (c : Config) (f : Frame) : (decodeReq c f).wf c = true := by
  unfold decodeReq
  split
  · exact wf_decodeCmd c f
  · next hv => simpa [Instr.wf] using hv

/-- Settles O4: each command's row of the table, with the argument bytes as they are. -/
theorem unusedArgumentBitsAreIgnored : Obligations.UnusedArgumentBitsAreIgnored := by
  rintro c ⟨-, -, hc, -⟩ a0 a1 a2 a3
  refine ⟨?_, ?_, ?_, ?_, ?_, ?_, ?_, ?_, ?_, ?_⟩
  · rintro m rfl
    exact ⟨decodeReq_mkReq_of_mem hc (by simp [cmdRows, mode3]), decodeReq_mkReq_of_mem hc (by simp [cmdRows, mode3])⟩
  all_goals exact decodeReq_mkReq_of_mem hc (by simp [cmdRows, boolOf, s16Of])

/-! ### Received words and line frames -/

section
variable {c : Config} {d : Dev} {w : RxWord}

theorem decodeRxw_badparity (h : rxTag w ≠ oddParity (rxByte w)) :
    decodeRxw c d w = .rxBadparity d (rxTag w) (rxByte w) := if_pos h

theorem decodeRxw_resend (h : rxTag w = oddParity (rxByte w)) (hb : rxByte w = c.resendByte) :
    decodeRxw c d w = .rxResend d := (if_neg (not_not.2 h)).trans (if_pos hb)

theorem decodeRxw_data (h : rxTag w = oddParity (rxByte w)) (hb : rxByte w ≠ c.resendByte) :
    decodeRxw c d w = .rxData d (rxTag w) (rxByte w) := (if_neg (not_not.2 h)).trans (if_neg hb)

end

theorem wf_decodeRxw (c : Config) (d : Dev) (w : RxWord) : (decodeRxw c d w).wf c = true := by
  by_cases h : rxTag w = oddParity (rxByte w)
  · by_cases hb : rxByte w = c.resendByte
    · rw [decodeRxw_resend h hb]; rfl
    · rw [decodeRxw_data h hb]
      simp [Instr.wf, h, hb]
  · rw [decodeRxw_badparity h]
    simpa [Instr.wf] using h

/-- The class of an assembled word, by its tag and its byte. -/
theorem decodeRxw_rxWord (c : Config) (d : Dev) (par : Bool) (data : Byte) :
    decodeRxw c d (rxWord par data) =
      if par ≠ oddParity data then .rxBadparity d par data
      else if data = c.resendByte then .rxResend d else .rxData d par data := by
  rw [decodeRxw, rxTag_rxWord, rxByte_rxWord]

/-- Encoding the class of a received word gives the word back (rules R113, R124). -/
theorem encode_decodeRxw (c : Config) (d : Dev) (w : RxWord) : encode c (decodeRxw c d w) = .rxw d w := by
  by_cases h : rxTag w = oddParity (rxByte w)
  · by_cases hb : rxByte w = c.resendByte
    · rw [decodeRxw_resend h hb]
      simp only [encode, ← hb, ← h, rxWord_rxTag_rxByte]
    · rw [decodeRxw_data h hb]
      simp only [encode, rxWord_rxTag_rxByte]
  · rw [decodeRxw_badparity h]
    simp only [encode, rxWord_rxTag_rxByte]

/-- A line frame with a right start and stop bit decodes, whatever its parity bit (assumption log 20). -/
theorem decodePs2f_of_frameOk {f : LineFrame} (d : Dev) (h : frameOk f = true) :
    decodePs2f d f = .ok (.ps2Frame d (framePar f) (frameData f)) := if_pos h

theorem decodePs2f_of_not_frameOk {f : LineFrame} (d : Dev) (h : frameOk f = false) :
    decodePs2f d f = .error .notALineFrame := if_neg (by simp [h])

/-- Settles O3: the three classes of a received word, and a line frame with its start and stop bit right or not. -/
theorem encodeOfDecodedPs2WordIsTheWord : Obligations.EncodeOfDecodedPs2WordIsTheWord := by
  refine ⟨encode_decodeRxw, fun c d f => ⟨fun h => ?_, fun h => decodePs2f_of_not_frameOk d ?_⟩⟩
  · obtain ⟨hstart, hstop⟩ := h
    have hok : frameOk f = true := by rw [frameOk, hstart, hstop]; rfl
    exact ⟨_, decodePs2f_of_frameOk d hok, congrArg (CodeWord.ps2f d) (lineFrame_of_frameOk f hok)⟩
  · rcases h with h | h
    · rw [frameOk, h]; rfl
    · rw [frameOk, h, Bool.and_false]

/-! ### Every word -/

set_option maxRecDepth 4000 in
/-- Settles O5: each word is run through the decoder. -/
theorem sampleWordsDecode : Obligations.SampleWordsDecode := by
  unfold Obligations.SampleWordsDecode
  and_intros
  all_goals decide

/-- Settles O2: the decoder of each format, and the eighteen rows of the operation word's table. -/
theorem decodedInstructionsAreWellFormed : Obligations.DecodedInstructionsAreWellFormed := by
  refine ⟨fun c => ⟨wf_decodeOpw c, wf_decodeReq c, wf_decodeRxw c⟩, ?_⟩
  rintro w d a b rfl rfl rfl
  have hrow : ∀ r ∈ opRows (opDev w) (opA w) (opB w), opSel w = r.1 → decodeOpw w = r.2 :=
    fun r hr => decodeOpw_of_opSel w r (List.mem_append_left _ hr)
  simp only [opRows, List.forall_mem_cons, List.not_mem_nil, false_imp_iff, implies_true, and_true] at hrow
  exact hrow

/-- Settles O1: an instruction's word decodes to its row of the table, with the operands read back from its fields. -/
theorem decodeOfEncodeIsTheInstruction : Obligations.DecodeOfEncodeIsTheInstruction := by
  rintro c ⟨-, -, hc, -⟩ i hwf
  cases i with
  | ps2Init d | ps2Enq d b | ps2Task d | engStep d hClk hData =>
    exact congrArg Except.ok (decodeOpw_mkOpw (by simp [opRows, loByte_fieldOfByte, getElem_fieldOfBits]))
  | hidKey code pressed | hidMbtn sel st | hidMabs x y | hidMrel dx dy | hidMwheel h v | hidTickMs kr mr
  | hidSync susp kr mr ko mo | linkByte b | outSetKbd m | outSetMouse m | reset m =>
    exact congrArg Except.ok (decodeOpw_mkOpw (d := .line0)
      (by simp [opRows, loByte_fieldOfByte, mode_fieldOfMode, getElem_fieldOfBits]))
  | cmdPing | cmdRepeat | cmdSetKbd m | cmdSetMouse m | cmdSetConnected | cmdClearHid | cmdKey code pressed
  | cmdMouseAbs x y | cmdMouseBtn sel st | cmdMouseWheel h v | cmdMouseRel dx dy =>
    exact congrArg Except.ok (decodeReq_mkReq_of_mem hc (by simp [cmdRows, mode3_argOfMode, boolOf_argOfBool]))
  | cmdUnknown cmd =>
    exact congrArg Except.ok (decodeReq_mkReq_unknown 0 0 0 0 (by simpa [Instr.wf] using hwf))
  | frameInvalid f =>
    have hv : validate c f = false := by simpa [Instr.wf] using hwf
    exact congrArg Except.ok (if_neg (by simp [hv]))
  | rxBadparity d par data =>
    have hp : par ≠ oddParity data := by simpa [Instr.wf] using hwf
    exact congrArg Except.ok ((decodeRxw_rxWord c d par data).trans (if_pos hp))
  | rxResend d => exact congrArg Except.ok ((decodeRxw_rxWord c d _ _).trans (by simp))
  | rxData d par data =>
    obtain ⟨hp, hb⟩ : par = oddParity data ∧ data ≠ c.resendByte := by simpa [Instr.wf] using hwf
    exact congrArg Except.ok ((decodeRxw_rxWord c d par data).trans (by simp [hp, hb]))
  | ps2Frame d par data =>
    exact (decodePs2f_of_frameOk d (frameOk_lineFrame par data)).trans
      (by rw [framePar_lineFrame, frameData_lineFrame])
  | _ => rfl

end Sys2Proof

/-! PROOFS. No response carries status 0: what is put on the trace by each operation. -/

namespace Sys2Proof.Machine

/-- A stored status is never 0: a plain code is not, and bit 7 of 0 is not set (rule R125). -/
theorem Cdr.Inv.prevStatus_ne_zero {c : Config} {r : Cdr} (hst : c.st.Wf) (h : r.Inv c) : r.prevStatus ≠ 0 := by
  obtain ⟨-, hcodes, -⟩ := hst
  rcases h with h | h
  · obtain ⟨hne, -⟩ := hcodes _ h
    exact hne
  · intro h0
    rw [h0] at h
    exact absurd h (by decide)

/-- `t` has the events of `s` and more, among which no response with status 0. -/
def State.NonzeroAnswers (s t : State) : Prop :=
  ∃ es, t.trace = s.trace ++ es ∧ ∀ f, .respOut f ∈ es → f[1] ≠ 0

namespace State.NonzeroAnswers

theorem of_trace_eq {s t : State} (h : t.trace = s.trace) : NonzeroAnswers s t := ⟨[], by simp [h]⟩

theorem refl (s : State) : NonzeroAnswers s s := of_trace_eq rfl

theorem trans {s t u : State} (h : NonzeroAnswers s t) (k : NonzeroAnswers t u) : NonzeroAnswers s u := by
  obtain ⟨es, hes, hne⟩ := h
  obtain ⟨fs, hfs, kne⟩ := k
  refine ⟨es ++ fs, by rw [hfs, hes, List.append_assoc], fun f hf => ?_⟩
  rcases List.mem_append.1 hf with hf | hf
  · exact hne f hf
  · exact kne f hf

/-- An event that is no response. -/
theorem emit (s : State) {e : Event} (h : ∀ f, e ≠ .respOut f) : NonzeroAnswers s (s.emit e) :=
  ⟨[e], rfl, fun f hf => absurd (List.mem_singleton.1 hf).symm (h f)⟩

/-- The events of a PS/2 line are no responses. -/
theorem of_phySide {d : Dev} {s t : State} (h : PhySide d s t) : NonzeroAnswers s t := by
  obtain ⟨es, hes, hline⟩ := h.trace
  refine ⟨es, hes, fun f hf => ?_⟩
  obtain ⟨_, _, he⟩ | ⟨_, _, he⟩ := hline _ hf
  · cases he
  · cases he

/-- The status of a response is the one it stores, which the invariant keeps off 0 (rules R305, R309). -/
theorem respond {s : State} {new : NewStatus} (h : (s.respond new).Inv) : NonzeroAnswers s (s.respond new) := by
  obtain ⟨-, -, -, hst, -⟩ := h.cfg
  refine ⟨[.respOut (s.responseFrame (s.responseCode new))], rfl, fun f hf => ?_⟩
  cases List.mem_singleton.1 hf
  exact h.cdr.prevStatus_ne_zero hst

/-! ### Operations that answer nothing -/

theorem hidKey (s : State) (code : Byte) (pressed : Bool) : NonzeroAnswers s (s.hidKey code pressed) :=
  ite_of (refl s) (ite_of (refl s) (ite_of (of_trace_eq rfl) (of_trace_eq rfl)))

theorem hidMbtn (s : State) (sel st : Byte) : NonzeroAnswers s (s.hidMbtn sel st) := ite_of (of_trace_eq rfl) (refl s)

theorem hidMabs (s : State) (x y : Half) : NonzeroAnswers s (s.hidMabs x y) := ite_of (of_trace_eq rfl) (refl s)

theorem hidMrel (s : State) (dx dy : Byte) : NonzeroAnswers s (s.hidMrel dx dy) := ite_of (of_trace_eq rfl) (refl s)

theorem hidMwheel (s : State) (h v : Byte) : NonzeroAnswers s (s.hidMwheel h v) := ite_of (of_trace_eq rfl) (refl s)

theorem syncKbd (s : State) (susp ready ok : Bool) : NonzeroAnswers s (s.syncKbd susp ready ok) :=
  have hsend := emit s (e := .usbSend .kbd s.kbd.report) nofun
  ite_of (ite_of (of_trace_eq rfl) (ite_of (ite_of hsend hsend) (of_trace_eq rfl))) (refl s)

theorem syncMouse (s : State) (susp ready ok : Bool) : NonzeroAnswers s (s.syncMouse susp ready ok) :=
  have hsend := emit s (e := .usbSend .mouse (mouseReport s.cfg s.out.mouseMode s.mouse)) nofun
  ite_of (ite_of (of_trace_eq rfl) (ite_of (ite_of hsend hsend) (of_trace_eq rfl))) (refl s)

theorem hidSync (s : State) (susp kr mr ko mo : Bool) : NonzeroAnswers s (s.hidSync susp kr mr ko mo) :=
  have h := (syncKbd s susp kr ko).trans (syncMouse _ susp mr mo)
  ite_of (h.trans (emit _ nofun)) h

theorem outSetKbd (s : State) (m : ModeCode) : NonzeroAnswers s (s.outSetKbd m).1 := by
  unfold State.outSetKbd
  split
  · exact emit s (e := .ps2Clear) nofun
  · exact of_trace_eq rfl

theorem outSetMouse (s : State) (m : ModeCode) : NonzeroAnswers s (s.outSetMouse m).1 := by
  unfold State.outSetMouse
  split
  · exact emit s (e := .ps2Clear) nofun
  · exact of_trace_eq rfl

theorem routeKey (s : State) (code : Byte) (pressed : Bool) : NonzeroAnswers s (s.routeKey code pressed) := by
  unfold State.routeKey
  split
  · exact hidKey s _ _
  · exact emit s nofun
  · exact refl s

theorem routeMouse {s usb : State} (kind : MouseKind) (a b : Half) (h : NonzeroAnswers s usb) :
    NonzeroAnswers s (s.routeMouse kind a b usb) :=
  ite_of (emit s nofun) h

/-! ### Commands -/

section
variable {s : State}

theorem frameInvalid (h : s.Inv) : NonzeroAnswers s s.frameInvalid := respond (s := s.raise _) h.frameInvalid

theorem cmdUnknown (h : s.Inv) : NonzeroAnswers s s.cmdUnknown := respond (s := s.raise _) h.cmdUnknown

theorem linkTimeout (h : s.Inv) : NonzeroAnswers s s.linkTimeout :=
  respond (s := (s.raise _).hidClear) h.linkTimeout

theorem handle (h : s.Inv) (f : Frame) : NonzeroAnswers s (s.handle f) :=
  State.handle_rec f (respond h.respondOk) (respond (h.respond .none nofun))
    (fun m => (outSetKbd s m).trans (respond (h.outSetKbd m).respondOk))
    (fun m => (outSetMouse s m).trans (respond (h.outSetMouse m).respondOk)) (respond h.respondOk)
    (respond (s := s.hidClear) h.hidClear.respondOk)
    (fun code pressed => (routeKey s code pressed).trans (respond (h.routeKey code pressed).respondOk))
    (fun x y => (routeMouse _ _ _ (hidMabs s x y)).trans (respond (h.routeMouse _ _ _ (h.hidMabs x y)).respondOk))
    (fun sel st => (routeMouse _ _ _ (hidMbtn s sel st)).trans
      (respond (h.routeMouse _ _ _ (h.hidMbtn sel st)).respondOk))
    (fun hz v => (routeMouse _ _ _ (hidMwheel s hz v)).trans
      (respond (h.routeMouse _ _ _ (h.hidMwheel hz v)).respondOk))
    (fun dx dy => (routeMouse _ _ _ (hidMrel s dx dy)).trans
      (respond (h.routeMouse _ _ _ (h.hidMrel dx dy)).respondOk))
    (cmdUnknown h) (frameInvalid h)

theorem linkByte (h : s.Inv) (b : Byte) : NonzeroAnswers s (s.linkByte b) := by
  unfold State.linkByte
  dsimp only
  split
  · exact of_trace_eq rfl
  · exact handle (s := (s.storeLinkByte b).setFidx 0) (h.withFcv ⟨.inl rfl, fun _ => rfl⟩) _

theorem linkTick (h : s.Inv) : NonzeroAnswers s s.linkTick :=
  ite_of (refl s) (ite_of (linkTimeout (s := s.discardFrame) h.discardFrame) (of_trace_eq rfl))

end

/-- Whatever an operation word does from a state of the invariant, it answers with no status 0. -/
theorem exec_decodeOpw {s : State} (h : s.Inv) (w : OpWord) :
    ∀ t, exec (decodeOpw w) s = .next t → NonzeroAnswers s t :=
  decodeOpw_rec (P := fun i => ∀ t, exec i s = .next t → NonzeroAnswers s t) w
    (fun _ _ ht => of_phySide (exec_phySide rfl ht)) (fun _ _ _ ht => of_phySide (exec_phySide rfl ht))
    (fun _ _ ht => of_phySide (exec_phySide rfl ht)) (fun _ _ _ _ ht => of_phySide (exec_phySide rfl ht))
    (by rintro code pressed _ ⟨⟩; exact hidKey s code pressed) (by rintro sel st _ ⟨⟩; exact hidMbtn s sel st)
    (by rintro x y _ ⟨⟩; exact hidMabs s x y) (by rintro dx dy _ ⟨⟩; exact hidMrel s dx dy)
    (by rintro hz v _ ⟨⟩; exact hidMwheel s hz v) (by rintro _ ⟨⟩; exact of_trace_eq rfl)
    (by rintro kr mr _ ⟨⟩; exact of_trace_eq rfl) (by rintro susp kr mr ko mo _ ⟨⟩; exact hidSync s susp kr mr ko mo)
    (by rintro b _ ⟨⟩; exact linkByte h b) (by rintro _ ⟨⟩; exact linkTick h)
    (by rintro m _ ⟨⟩; exact outSetKbd s m) (by rintro m _ ⟨⟩; exact outSetMouse s m)
    (by rintro _ ⟨⟩; exact of_trace_eq rfl) (by rintro m _ ⟨⟩; exact of_trace_eq rfl)
    (fun _ hi t ht => by cases (hi s).symm.trans ht; exact refl s)

end State.NonzeroAnswers

/-- Settles O57: nothing is answered on an empty port, and the operation of the word taken answers with no status 0. -/
theorem noResponseCarriesStatusZero : Obligations.NoResponseCarriesStatusZero := by
  intro s t h hstep
  cases hport : s.port with
  | nil =>
    rw [step_of_port_nil hport] at hstep
    cases hstep
    exact State.NonzeroAnswers.refl s
  | cons w rest =>
    rw [step_of_port_cons hport] at hstep
    exact State.NonzeroAnswers.exec_decodeOpw (h.takeWord rest) w t hstep

end Sys2Proof.Machine

/-! PROOFS. The bit engine: the line frame in the shifter, and the slots of a byte sent by the host. -/

namespace Sys2Proof.Machine

/-- The start bit and the stop bit of every line frame (rule R111). -/
theorem lineFrame_start_stop (par : Bool) (data : Byte) :
    (lineFrame par data).getLsbD 0 = false ∧ (lineFrame par data).getLsbD 10 = true := by
  simpa [frameOk] using frameOk_lineFrame par data

/-- Settles O13: the shifter holds the assembled line frame, read back field by field. -/
theorem lineFrameLoadsTheShifter : Obligations.LineFrameLoadsTheShifter := by
  intro s d par data
  obtain ⟨hstart, hstop⟩ := lineFrame_start_stop par data
  exact ⟨lineFrame par data, rfl, hstart, frameData_lineFrame par data, framePar_lineFrame par data, hstop⟩

/-! ### A byte sent by the host -/

/-- Two operations on one PHY line, one after the other. -/
theorem State.applyPhy_applyPhy (s : State) (d : Dev) (o o' : PhyOut) :
    (s.applyPhy d o).applyPhy d o' =
      s.applyPhy d { phy := o'.phy, errs := o.errs ++ o'.errs, events := o.events ++ o'.events } := by
  cases d <;> simp [State.applyPhy, State.setPhy]

/-- The engine step at the head of a list runs first. -/
theorem runInstrs_engStep {s : State} {d : Dev} {p : Phy} {hClk hData : Bool} {o : PhyOut} (is : List Instr)
    (hs : s.phy d = p) (hi : p.inited = true) (h : engSlot s.cfg d p hClk hData = some o) :
    runInstrs (.engStep d hClk hData :: is) s = runInstrs is (s.applyPhy d o) := by
  subst hs
  rw [runInstrs, exec_engStep hi h]

/-- Rule R164, with room in the receive FIFO. -/
theorem engSlot_deliver {c : Config} {d : Dev} {p : Phy} {hData : Bool} (hst : p.eng.st = .receiving)
    (hb : p.eng.bitn = 11) (hstop : p.eng.rxStop = true) (hroom : p.rxf.length < c.rxfDepth) :
    engSlot c d p true hData =
      some (wireOut d ({ p with rxf := p.rxf ++ [rxWord p.eng.rxPar p.eng.rxSh] }).toIdle [] true false) := by
  rw [engSlot_ack _ _ _ _ hst hb, hstop, if_pos rfl, engRxDeliver, pushOk_of_lt hroom, pushed_of_lt _ hroom, if_pos rfl]

/-- The PHY `p` in `RECEIVING`, slot `n` next, `sh` received so far (rules R157, R161). -/
def Phy.receivingAt (p : Phy) (n : Nat) (sh : Byte) : Phy :=
  { p with eng := { p.eng with
      st := .receiving, bitn := n, rxSh := sh, rxPar := false, rxStop := false, idleCnt := 0 } }

/-- The PHY `p` once the byte and its parity bit are delivered (rule R164). -/
def Phy.received (p : Phy) (data : Byte) (par : Bool) : Phy :=
  { p with
    rxf := p.rxf ++ [rxWord par data]
    eng := { p.eng with
      st := .idle, bitn := 11, rxSh := data, rxPar := par, rxStop := true, idleCnt := 0, dData := true } }

/-- The byte after the bits `bits`, the first of them in slot `n` (rule R161). -/
def shiftIn (sh : Byte) (n : Nat) : List Bool → Byte
  | [] => sh
  | b :: bs => shiftIn (setBit sh (n - 1) b) (n + 1) bs

/-- The bits of a byte, least significant first. -/
def byteBits (data : Byte) : List Bool :=
  [data.getLsbD 0, data.getLsbD 1, data.getLsbD 2, data.getLsbD 3, data.getLsbD 4, data.getLsbD 5, data.getLsbD 6,
    data.getLsbD 7]

theorem hostSendBits_eq (data : Byte) (par : Bool) :
    hostSendBits data par = false :: (byteBits data ++ [par, true, true]) := rfl

theorem shiftIn_byteBits (data : Byte) : shiftIn 0 1 (byteBits data) = data := by revert data; decide

section
variable {p : Phy} {d : Dev} (hi : p.inited = true)
include hi

/-- The data slots, from any of them on and for as many as are left (rule R161). -/
theorem runInstrs_dataSlots (is : List Instr) (bits : List Bool) {n : Nat} {sh : Byte} {s : State} (h1 : 1 ≤ n)
    (h9 : n + bits.length ≤ 9) (hs : s.phy d = p.receivingAt n sh) :
    runInstrs (bits.map (.engStep d true) ++ is) s =
      runInstrs is (s.applyPhy d { phy := p.receivingAt (n + bits.length) (shiftIn sh n bits), errs := []
                                   events := bits.map (.wire d true) }) := by
  induction bits generalizing n sh s with
  | nil => simp [shiftIn, ← hs, State.applyPhy]
  | cons b bits ih =>
    rw [List.length_cons] at h9
    have hslot : engSlot s.cfg d (p.receivingAt n sh) true b = some (engRxData d (p.receivingAt n sh) b) :=
      engSlot_data _ _ _ _ rfl h1 (show n ≤ 8 by omega)
    have hnext : engRxData d (p.receivingAt n sh) b =
        { phy := p.receivingAt (n + 1) (setBit sh (n - 1) b), errs := [], events := [.wire d true b] } := rfl
    rw [List.map_cons, List.cons_append, runInstrs_engStep _ hs hi hslot, hnext,
      ih (Nat.le_add_left 1 n) (by omega) (State.applyPhy_phy_self _ _ _), State.applyPhy_applyPhy]
    simp only [List.length_cons, List.map_cons, List.nil_append, List.singleton_append, shiftIn, Nat.add_assoc,
      Nat.add_comm 1]

/-- The parity slot, the stop slot and the acknowledge (rules R162 to R164). -/
theorem runInstrs_lastSlots (par : Bool) {data : Byte} {s : State} (hroom : p.rxf.length < s.cfg.rxfDepth)
    (hs : s.phy d = p.receivingAt 9 data) :
    runInstrs ([par, true, true].map (.engStep d true)) s =
      .next (s.applyPhy d { phy := p.received data par, errs := []
                            events := [.wire d true par, .wire d true true, .wire d true false] }) := by
  have hack : engSlot s.cfg d (engRxStop d (engRxParity d (p.receivingAt 9 data) par).phy true).phy true true =
      some { phy := p.received data par, errs := [], events := [.wire d true false] } :=
    engSlot_deliver rfl rfl rfl hroom
  rw [List.map_cons, runInstrs_engStep _ hs hi (engSlot_parity _ _ _ par rfl rfl), List.map_cons,
    runInstrs_engStep _ (State.applyPhy_phy_self _ _ _) hi (engSlot_stop _ _ _ true rfl rfl), State.applyPhy_applyPhy,
    List.map_cons, runInstrs_engStep _ (State.applyPhy_phy_self _ _ _) hi (by rw [State.applyPhy_cfg]; exact hack),
    State.applyPhy_applyPhy]
  rfl

/-- The twelve slots of a byte sent by the host (rule R114), run from `IDLE`. -/
theorem runInstrs_hostSend (data : Byte) (par : Bool) {s : State} (hst : p.eng.st = .idle)
    (hroom : p.rxf.length < s.cfg.rxfDepth) (hs : s.phy d = p) :
    runInstrs ((hostSendBits data par).map (.engStep d true)) s =
      .next (s.applyPhy d { phy := p.received data par, errs := []
                            events := .wire d false false :: ((byteBits data ++ [par, true]).map (.wire d true) ++
                              [.wire d true false]) }) := by
  have hreq : engSlot s.cfg d p true false =
      some { phy := p.receivingAt 1 0, errs := [], events := [.wire d false false] } := engSlot_request _ _ _ hst
  rw [hostSendBits_eq, List.map_cons, runInstrs_engStep _ hs hi hreq, List.map_append,
    runInstrs_dataSlots hi _ (byteBits data) (Nat.le_refl 1) (Nat.le_refl 9) (State.applyPhy_phy_self _ _ _),
    State.applyPhy_applyPhy, shiftIn_byteBits,
    runInstrs_lastSlots hi par (by simpa using hroom) (State.applyPhy_phy_self _ _ _), State.applyPhy_applyPhy]
  simp

end

/-- Settles O19: the state after the twelve slots, read field by field. -/
theorem receptionDeliversTheByte : Obligations.ReceptionDeliversTheByte := by
  intro s d data par hi hst hroom
  refine ⟨_, runInstrs_hostSend hi data par hst hroom rfl, ?_, State.applyPhy_trace _ _ _, ?_⟩
  · rw [State.applyPhy_phy_self]
    rfl
  · rw [State.applyPhy_phy_self]
    exact ⟨rfl, rfl, rfl, rfl, rfl, by simp⟩

end Sys2Proof.Machine

/-! PROOFS. The mode tables, and where the event commands go. -/

namespace Sys2Proof.Machine

/-! ### The mode codes (rule R126) -/

section
variable {c : Config}

theorem decodeKbd_kbdCode (h : c.modes.Wf) (m : KbdMode) : decodeKbd c (kbdCode c m) = some m := by
  obtain ⟨hk, -⟩ := h
  have hr := List.nodup_reverse.2 hk
  cases m with
  | none => exact if_pos rfl
  | _ => simp_all [decodeKbd, kbdCode]

theorem decodeMouse_mouseCode (h : c.modes.Wf) (m : MouseMode) : decodeMouse c (mouseCode c m) = some m := by
  obtain ⟨-, hm⟩ := h
  have hr := List.nodup_reverse.2 hm
  cases m with
  | none => exact if_pos rfl
  | _ => simp_all [decodeMouse, mouseCode]

theorem kbdCode_of_decodeKbd {code : ModeCode} {m : KbdMode} (h : decodeKbd c code = some m) : kbdCode c m = code := by
  unfold decodeKbd at h
  repeat' split at h
  all_goals cases h
  all_goals next hcode => exact hcode.symm

theorem mouseCode_of_decodeMouse {code : ModeCode} {m : MouseMode} (h : decodeMouse c code = some m) :
    mouseCode c m = code := by
  unfold decodeMouse at h
  repeat' split at h
  all_goals cases h
  all_goals next hcode => exact hcode.symm

/-- The codes of the keyboard table that name no mode, with the default codes (rule R135). -/
theorem decodeKbd_default (h : c.modes = Config.defaultModes) : ∀ code ∈ [2, 4, 5, 6, 7], decodeKbd c code = none := by
  simp only [decodeKbd, h]
  decide

theorem decodeMouse_default (h : c.modes = Config.defaultModes) : ∀ code ∈ [5, 6, 7], decodeMouse c code = none := by
  simp only [decodeMouse, h]
  decide

/-! ### The capability bits (rule R127) -/

theorem and_mask_bne_zero (v : Byte) :
    (v &&& 0x01 != 0) = v.getLsbD 0 ∧ (v &&& 0x02 != 0) = v.getLsbD 1 ∧ (v &&& 0x04 != 0) = v.getLsbD 2 := by
  revert v
  decide

/-! ### The mask byte (rules R308, R361) -/

theorem getLsbD_fieldAt (code : ModeCode) {lo i : Nat} (hi : i < 8) :
    (fieldAt code lo).getLsbD i = (!decide (i < lo) && code.getLsbD (i - lo)) := by
  rw [fieldAt, BitVec.getLsbD_shiftLeft, BitVec.getLsbD_setWidth]
  have h : i - lo < 8 := by omega
  simp [hi, h]

theorem extract_fieldAt_self (code : ModeCode) {lo : Nat} (h : lo + 3 ≤ 8) :
    (fieldAt code lo).extractLsb' lo 3 = code := by
  apply BitVec.eq_of_getLsbD_eq
  intro i hi
  rw [BitVec.getLsbD_extractLsb', getLsbD_fieldAt code (by omega)]
  simp [hi]

/-- Two fields that do not overlap do not see each other. -/
theorem extract_fieldAt_disjoint (code : ModeCode) {lo other : Nat} (h : lo + 3 ≤ 8)
    (hd : lo + 3 ≤ other ∨ other + 3 ≤ lo) : (fieldAt code other).extractLsb' lo 3 = 0#3 := by
  apply BitVec.eq_of_getLsbD_eq
  intro i hi
  rw [BitVec.getLsbD_extractLsb', getLsbD_fieldAt code (by omega), BitVec.getLsbD_zero]
  rcases hd with hd | hd
  · have hlt : lo + i < other := by omega
    simp [hlt]
  · simp [BitVec.getLsbD_of_ge code (lo + i - other) (by omega)]

variable (hl : c.layout.Wf) (k : KbdMode) (m : MouseMode)
include hl

theorem extract_modeMask_kbd : (modeMask c k m).extractLsb' c.layout.kbdLo 3 = kbdCode c k := by
  obtain ⟨hk, -, hd⟩ := hl
  rw [modeMask, BitVec.extractLsb'_or, extract_fieldAt_self _ hk, extract_fieldAt_disjoint _ hk hd, BitVec.zero_or]

theorem extract_modeMask_mouse : (modeMask c k m).extractLsb' c.layout.mouseLo 3 = mouseCode c m := by
  obtain ⟨-, hm, hd⟩ := hl
  rw [modeMask, BitVec.extractLsb'_or, extract_fieldAt_self _ hm, extract_fieldAt_disjoint _ hm hd.symm,
    BitVec.or_zero]

/-- A boot mask boots the keyboard mode whose code it holds, if that is available. -/
theorem bootKbd_modeMask (hc : c.modes.Wf) (ha : kbdAvailable c k = true) : bootKbd c (modeMask c k m) = k := by
  rw [bootKbd, extract_modeMask_kbd hl, selectKbd_eq_some.2 ⟨decodeKbd_kbdCode hc k, ha⟩, Option.getD_some]

theorem bootMouse_modeMask (hc : c.modes.Wf) (ha : mouseAvailable c m = true) : bootMouse c (modeMask c k m) = m := by
  rw [bootMouse, extract_modeMask_mouse hl, selectMouse_eq_some.2 ⟨decodeMouse_mouseCode hc m, ha⟩, Option.getD_some]

end

/-- Under the default layout the two fields stand side by side. -/
theorem modeMask_default {c : Config} (h : c.layout = Config.defaultLayout) (k : KbdMode) (m : MouseMode) :
    modeMask c k m = 0#2 ++ mouseCode c m ++ kbdCode c k := by
  have key : ∀ x y : ModeCode, fieldAt x 3 ||| fieldAt y 0 = 0#2 ++ x ++ y := by decide
  rw [modeMask, h]
  exact key _ _

/-- Settles O43: the tables both ways, the capability bits, and the two fields of the mask byte. -/
theorem modeTablesDecodeTheirCodes : Obligations.ModeTablesDecodeTheirCodes := by
  intro c hc
  refine ⟨decodeKbd_kbdCode hc, decodeMouse_mouseCode hc, fun _ _ => kbdCode_of_decodeKbd,
    fun _ _ => mouseCode_of_decodeMouse, fun h => ⟨decodeKbd_default h, decodeMouse_default h⟩,
    fun husb hps2 hleg => ?_, fun k m => ⟨fun h => modeMask_default h k m,
      fun hl => ⟨bootKbd_modeMask hl k m hc, bootMouse_modeMask hl k m hc⟩⟩⟩
  obtain ⟨h0, h1, h2⟩ := and_mask_bne_zero c.avail
  simp only [kbdAvailable, mouseAvailable, hasCap, husb, hps2, hleg, h0, h1, h2, and_self]

/-! ### The event commands (rules R297 to R302) -/

section
variable {s : State}

theorem State.routeKey_usb (h : s.out.kbdMode = .usb) (code : Byte) (pressed : Bool) :
    s.routeKey code pressed = s.hidKey code pressed := by rw [State.routeKey, h]

theorem State.routeKey_ps2 (h : s.out.kbdMode = .ps2) (code : Byte) (pressed : Bool) :
    s.routeKey code pressed = s.emit (.ps2KeyEvent code pressed) := by rw [State.routeKey, h]

theorem State.routeKey_none (h : s.out.kbdMode = .none) (code : Byte) (pressed : Bool) :
    s.routeKey code pressed = s := by rw [State.routeKey, h]

theorem State.routeMouse_ps2 (h : s.out.mouseMode = .ps2) (kind : MouseKind) (a b : Half) (usb : State) :
    s.routeMouse kind a b usb = s.emit (.ps2MouseEvent kind a b) := if_pos h

theorem State.routeMouse_usb (h : s.out.mouseMode ≠ .ps2) (kind : MouseKind) (a b : Half) (usb : State) :
    s.routeMouse kind a b usb = usb := if_neg h

/-- A command that answers OK on the state `t` does there what a ping does. -/
theorem exec_eq_cmdPing {i : Instr} {t u : State} (hi : exec i s = .next (t.respond .ok)) (h : t = u) :
    exec i s = exec .cmdPing u := by
  subst h
  exact hi

end

/-- The two readings of a button operand (assumption log 25). -/
theorem buttonOperand_whole {c : Config} (h : c.reading.wholeButtons = true) (v : Byte) :
    buttonOperand c v = v.setWidth 16 := by rw [buttonOperand, h, if_pos rfl, zext16]

theorem buttonOperand_masked {c : Config} (h : c.reading.wholeButtons = false) (v : Byte) :
    buttonOperand c v = (v &&& 0x1F#8).setWidth 16 := by rw [buttonOperand, h, if_neg (by decide), zext16]

/-- Settles O49: every event command routes its event and then answers OK. -/
theorem eventCommandsRouteByMode : Obligations.EventCommandsRouteByMode := by
  intro s
  refine ⟨⟨_, rfl, rfl⟩, fun code pressed => ⟨fun h => ⟨_, rfl, ?_⟩, fun h => ?_, fun h => ?_⟩, fun h a b x y => ?_,
    fun h a b x y => ?_⟩
  · exact exec_eq_cmdPing rfl (State.routeKey_usb h code pressed)
  · exact exec_eq_cmdPing rfl (State.routeKey_ps2 h code pressed)
  · exact exec_eq_cmdPing rfl (State.routeKey_none h code pressed)
  · refine ⟨fun hw => ?_, fun hw => ?_, ?_, ?_, ?_⟩
    · rw [← buttonOperand_whole hw, ← buttonOperand_whole hw]
      exact exec_eq_cmdPing rfl (State.routeMouse_ps2 h _ _ _ _)
    · rw [← buttonOperand_masked hw, ← buttonOperand_masked hw]
      exact exec_eq_cmdPing rfl (State.routeMouse_ps2 h _ _ _ _)
    all_goals exact exec_eq_cmdPing rfl (State.routeMouse_ps2 h _ _ _ _)
  · refine ⟨⟨_, rfl, ?_⟩, ⟨_, rfl, ?_⟩, ⟨_, rfl, ?_⟩, _, rfl, ?_⟩
    all_goals exact exec_eq_cmdPing rfl (State.routeMouse_usb h _ _ _ _)

end Sys2Proof.Machine

/-! PROOFS. One engine step, rule by rule, the transmission of a whole frame, and the line frame's parity. -/

namespace Sys2Proof.Machine

/-! ### One step of an initialised engine -/

section
variable {s : State} {d : Dev} {p q : Phy} {hClk hData pulse data : Bool} (hs : s.phy d = p) (hi : p.inited = true)
include hs hi

/-- A slot that raises nothing: the new PHY line and one `wire` event are all that changes. -/
theorem exec_engStep_wire (h : engSlot s.cfg d p hClk hData = some (wireOut d q [] pulse data)) :
    exec (.engStep d hClk hData) s = .next ((s.setPhy d q).emit (.wire d pulse data)) := by
  subst hs
  rw [exec_engStep hi h, wireOut, State.applyPhy_wire]

/-- A slot that raises one error event. -/
theorem exec_engStep_wire_raise {x : ErrEvent} (h : engSlot s.cfg d p hClk hData = some (wireOut d q [x] pulse data)) :
    exec (.engStep d hClk hData) s = .next (((s.setPhy d q).emit (.wire d pulse data)).raise x) := by
  subst hs
  rw [exec_engStep hi h, wireOut, State.applyPhy_wire_raise]

end

/-- Settles O12: both sides load the frame into the PHY line with the sample counted and the FIFO popped. -/
theorem engineRunsTheWaitingFrame : Obligations.EngineRunsTheWaitingFrame := by
  intro s d par data rest hi hst ht hc
  refine ⟨_, rfl, ?_⟩
  rw [exec_engStep_wire rfl hi (engSlot_idle_start s.cfg d _ _ rest hst ht hc), State.setPhy_setPhy,
    State.setPhy_phy_self, State.setPhy_cfg]
  rfl

/-- Settles O14: the host inhibits (R155), the bus is sampled idle with and without a start (R156), the host requests to
send (R157). -/
theorem engineStepInIdle : Obligations.EngineStepInIdle := by
  intro s d p hs hi hst
  refine ⟨fun hData => ?inhibited, ?idle, ?request⟩
  case inhibited => exact exec_engStep_wire hs hi (engSlot_inhibited s.cfg d p hData hst)
  case idle =>
    rintro cnt rfl
    exact ⟨fun hw => exec_engStep_wire hs hi (engSlot_idle_wait s.cfg d p hst hw),
      fun f rest hc ht => exec_engStep_wire hs hi (engSlot_idle_start s.cfg d p f rest hst ht hc)⟩
  case request => exact exec_engStep_wire hs hi (engSlot_request s.cfg d p hst)

theorem wireLevel_eq_and (a b : Bool) : wireLevel a b = (b && a) := Bool.and_comm a b

/-- Settles O15: a bit (R158), the last bit (R159), the host's interrupt (R160). -/
theorem engineStepInTransmitting : Obligations.EngineStepInTransmitting := by
  intro s d p hData hs hi hst
  simp only [← wireLevel_eq_and hData]
  exact ⟨fun hb => exec_engStep_wire hs hi (engSlot_send s.cfg d p hData hst hb),
    fun hb => exec_engStep_wire hs hi (engSlot_last s.cfg d p hData hst hb),
    exec_engStep_wire_raise hs hi (engSlot_abort s.cfg d p hData hst)⟩

/-- A single-bit write, bit by bit. -/
theorem getLsbD_setBit {n i k : Nat} (v : BitVec n) (b : Bool) (hi : i < n) :
    (setBit v k b).getLsbD i = if i = k then b else v.getLsbD i := by
  split
  · next h => exact h ▸ getLsbD_setBit_self v i b hi
  · next h => exact getLsbD_setBit_ne v b hi h

/-- Rule R164, with the receive FIFO full: the word is lost. -/
theorem engSlot_overflow {c : Config} {d : Dev} {p : Phy} {hData : Bool} (hst : p.eng.st = .receiving)
    (hb : p.eng.bitn = 11) (hstop : p.eng.rxStop = true) (hfull : c.rxfDepth ≤ p.rxf.length) :
    engSlot c d p true hData = some (wireOut d p.toIdle [.rxOverflow d] true false) := by
  rw [engSlot_ack _ _ _ _ hst hb, hstop, if_pos rfl, engRxDeliver, pushOk_of_le hfull, pushed_of_le _ hfull,
    if_neg Bool.false_ne_true]

/-- Rule R165. -/
theorem engSlot_frameError {c : Config} {d : Dev} {p : Phy} {hData : Bool} (hst : p.eng.st = .receiving)
    (hb : p.eng.bitn = 11) (hstop : p.eng.rxStop = false) :
    engSlot c d p true hData = some (wireOut d ({ p with rxFerr := true }).toIdle [.rxFrameError d] true false) := by
  rw [engSlot_ack _ _ _ _ hst hb, hstop, if_neg Bool.false_ne_true, engRxFrameError]

/-- Settles O16: slot by slot (R161 to R165), and the host's interrupt (R166). -/
theorem engineStepInReceiving : Obligations.EngineStepInReceiving := by
  intro s d p hData hs hi hst
  refine ⟨fun h1 h8 => ?data, fun h9 => ?parity, fun h10 => ?stop, ?ack, ?dropped⟩
  case data => exact ⟨_, exec_engStep_wire hs hi (engSlot_data s.cfg d p hData hst h1 h8),
    fun i hlt => getLsbD_setBit p.eng.rxSh hData hlt⟩
  case parity => exact exec_engStep_wire hs hi (engSlot_parity s.cfg d p hData hst h9)
  case stop => exact exec_engStep_wire hs hi (engSlot_stop s.cfg d p hData hst h10)
  case ack =>
    rintro e rfl h11
    exact ⟨fun hstop hroom => exec_engStep_wire hs hi (engSlot_deliver hst h11 hstop hroom),
      fun hstop hfull => exec_engStep_wire_raise hs hi (engSlot_overflow hst h11 hstop hfull),
      fun hstop => exec_engStep_wire_raise hs hi (engSlot_frameError hst h11 hstop)⟩
  case dropped => exact exec_engStep_wire hs hi (engSlot_dropped s.cfg d p hData hst)

/-! ### The range of the slot counter (rule R33) -/

/-- Within the engine's ranges one of the rules R155 to R166 applies. -/
theorem engSlot_isSome {c : Config} (d : Dev) {p : Phy} (hClk hData : Bool) (h : p.eng.Inv c) :
    ∃ o, engSlot c d p hClk hData = some o := by
  obtain ⟨hbit, -, -, -, htx, hrx⟩ := h
  cases hst : p.eng.st with
  | idle => exact ⟨engIdle c d p hClk hData, by simp only [engSlot, hst]⟩
  | transmitting =>
    obtain ⟨hb, -⟩ := htx hst
    cases hClk with
    | false => exact ⟨_, engSlot_abort c d p hData hst⟩
    | true =>
      obtain hb | hb := Nat.lt_or_eq_of_le hb
      · exact ⟨_, engSlot_send c d p hData hst (Nat.le_of_lt_succ hb)⟩
      · exact ⟨_, engSlot_last c d p hData hst hb⟩
  | receiving =>
    have h1 := hrx hst
    cases hClk with
    | false => exact ⟨_, engSlot_dropped c d p hData hst⟩
    | true =>
      have hslots : p.eng.bitn ≤ 8 ∨ p.eng.bitn = 9 ∨ p.eng.bitn = 10 ∨ p.eng.bitn = 11 := by omega
      obtain hb | hb | hb | hb := hslots
      · exact ⟨_, engSlot_data c d p hData hst h1 hb⟩
      · exact ⟨_, engSlot_parity c d p hData hst hb⟩
      · exact ⟨_, engSlot_stop c d p hData hst hb⟩
      · exact ⟨_, engSlot_ack c d p hData hst hb⟩

/-- Past the last bit of a frame no rule applies (assumption log 7). -/
theorem engSlot_send_outOfRange (c : Config) (d : Dev) {p : Phy} (hData : Bool) (hst : p.eng.st = .transmitting)
    (hb : 11 ≤ p.eng.bitn) : engSlot c d p true hData = none := by
  have h9 : ¬ p.eng.bitn ≤ 9 := by omega
  have h10 : ¬ p.eng.bitn = 10 := by omega
  simp [engSlot, hst, engTransmitting, h9, h10]

/-- Outside the slots 1 to 11 of a reception no rule applies (assumption log 7). -/
theorem engSlot_receive_outOfRange (c : Config) (d : Dev) {p : Phy} (hData : Bool) (hst : p.eng.st = .receiving)
    (hb : p.eng.bitn = 0 ∨ 12 ≤ p.eng.bitn) : engSlot c d p true hData = none := by
  obtain hb | hb := hb
  · simp [engSlot, hst, engReceiving, hb]
  · have h0 : ¬ p.eng.bitn = 0 := by omega
    have h8 : ¬ p.eng.bitn ≤ 8 := by omega
    have h9 : ¬ p.eng.bitn = 9 := by omega
    have h10 : ¬ p.eng.bitn = 10 := by omega
    have h11 : ¬ p.eng.bitn = 11 := by omega
    simp [engSlot, hst, engReceiving, h0, h8, h9, h10, h11]

/-- Settles O17: in range a slot answers, with its one event; out of range there is no slot. -/
theorem engineStepEmitsOneWireEvent : Obligations.EngineStepEmitsOneWireEvent := by
  intro s d hClk hData hi
  refine ⟨fun hinv => ?_, ?_⟩
  · obtain ⟨o, ho⟩ := engSlot_isSome d hClk hData hinv
    obtain ⟨pulse, data, he⟩ := engSlot_events ho
    exact ⟨_, pulse, data, exec_engStep hi ho, by rw [State.applyPhy_trace, he]⟩
  · rintro rfl (⟨hst, hb⟩ | ⟨hst, hb⟩)
    · exact exec_engStep_none hi (engSlot_send_outOfRange s.cfg d hData hst hb)
    · exact exec_engStep_none hi (engSlot_receive_outOfRange s.cfg d hData hst hb)

/-! ### The transmission of a frame -/

/-- The PHY `p` once the last bit of its frame is out (rule R159). -/
def Phy.frameSent (p : Phy) : Phy := ({ p with eng := { p.eng with bitn := 10 } }).toIdle

/-- The `wire` events of `n` bits of the frame `f`, from bit `i` on, with the host's wires released (rule R158). -/
def bitEvents (d : Dev) (f : LineFrame) (i n : Nat) : List Event :=
  (List.range' i n).map fun k => .wire d true (f.getLsbD k)

/-- From any bit of the frame on, the bits that are left go out in order, and the last one ends the frame (rules R158,
R159, R169). -/
theorem runInstrs_sendBits {d : Dev} {p : Phy} {s : State} {n : Nat} (hs : s.phy d = p) (hi : p.inited = true)
    (hst : p.eng.st = .transmitting) (hn : p.eng.bitn + n = 10) :
    runInstrs (List.replicate (n + 1) (.engStep d true true)) s =
      .next (s.applyPhy d { phy := p.frameSent, errs := [], events := bitEvents d p.eng.txSh p.eng.bitn (n + 1) }) := by
  induction n generalizing p s with
  | zero =>
    have hsent : engSendLast d p true =
        { phy := p.frameSent, errs := [], events := bitEvents d p.eng.txSh p.eng.bitn 1 } := by
      simp [engSendLast, wireOut, wireLevel, bitEvents, Phy.frameSent, Phy.toIdle, ← hn]
    rw [List.replicate_succ, runInstrs_engStep _ hs hi (engSlot_last s.cfg d p true hst hn), hsent]
    rfl
  | succ n ih =>
    have hbit : p.eng.bitn ≤ 9 := by omega
    rw [List.replicate_succ, runInstrs_engStep _ hs hi (engSlot_send s.cfg d p true hst hbit),
      ih (State.applyPhy_phy_self _ _ _) hi hst (show p.eng.bitn + 1 + n = 10 by omega), State.applyPhy_applyPhy]
    rfl

/-- Settles O18: the start of the frame (R156), then its eleven bits. -/
theorem transmissionShiftsOutTheFrame : Obligations.TransmissionShiftsOutTheFrame := by
  intro s d f rest hi hst hcnt ht
  have hidle : s.cfg.idleHold ≤ idleNext s.cfg (s.phy d) := by rw [idleNext, hcnt]; omega
  have hrun := runInstrs_engStep (List.replicate 11 (.engStep d true true)) rfl hi
    (engSlot_idle_start s.cfg d _ f rest hst ht hidle)
  rw [runInstrs_sendBits (n := 10) (State.applyPhy_phy_self _ _ _) hi rfl rfl, State.applyPhy_applyPhy] at hrun
  refine ⟨_, hrun, State.applyPhy_trace _ _ _, ?_⟩
  rw [State.applyPhy_phy_self, State.applyPhy_raised]
  exact ⟨rfl, rfl, rfl, rfl, rfl, rfl, List.append_nil _⟩

/-! ### The line frame and its parity (rules R150 to R152) -/

/-- The data bits and the parity bit together hold an odd number of ones. -/
theorem countP_add_oddParity (b : Byte) :
    ((List.range 8).countP (fun i => b.getLsbD i) + (oddParity b).toNat) % 2 = 1 := by revert b; decide

theorem getLsbD_frameData (f : LineFrame) {i : Nat} (hi : i < 8) : (frameData f).getLsbD i = f.getLsbD (i + 1) := by
  rw [frameData, BitVec.getLsbD_extractLsb', Nat.add_comm 1 i, decide_eq_true hi, Bool.true_and]

theorem toNat_lineFrame (par : Bool) (data : Byte) :
    (lineFrame par data).toNat = 0x400 + 0x200 * par.toNat + 2 * data.toNat := by revert par data; decide

theorem ps2Unframe_lineFrame (par : Bool) (data : Byte) :
    ps2Unframe (lineFrame par data) = (data, par == oddParity data, true) := by
  rw [ps2Unframe, frameData_lineFrame, framePar_lineFrame, frameOk_lineFrame]

theorem oddParity_xor (a b : Byte) : oddParity (a ^^^ b) = (oddParity a ^^ !oddParity b) := by
  simp only [oddParity, BitVec.getLsbD_xor, Bool.true_xor, Bool.not_xor, Bool.not_not]
  have : Std.Commutative xor := ⟨Bool.xor_comm⟩
  ac_rfl

/-- One flipped data bit changes the parity. -/
theorem oddParity_flip (b : Byte) {k : Nat} (hk : k < 8) : oddParity (b ^^^ (1#8 <<< k)) = !oddParity b := by
  have hbit : ∀ k < 8, oddParity (1#8 <<< k) = false := by decide
  rw [oddParity_xor, hbit k hk, Bool.not_false, Bool.xor_true]

theorem framePar_xor (f g : LineFrame) : framePar (f ^^^ g) = (framePar f ^^ framePar g) := BitVec.getLsbD_xor

theorem frameData_xor (f g : LineFrame) : frameData (f ^^^ g) = frameData f ^^^ frameData g := BitVec.extractLsb'_xor

/-- A flip of bit 9 changes the parity bit alone, a flip of one of bits 1 to 8 one data bit alone. -/
theorem parity_test_fails_of_flip {f : LineFrame} (hf : framePar f = oddParity (frameData f)) {i : Nat} (h1 : 1 ≤ i)
    (h9 : i ≤ 9) : (ps2Unframe (f ^^^ (1#11 <<< i))).2.1 = false := by
  rw [ps2Unframe, framePar_xor, frameData_xor, hf]
  obtain rfl | h8 := Nat.eq_or_lt_of_le h9
  · have hpar : framePar (1#11 <<< 9) = true := by decide
    have hdata : frameData (1#11 <<< 9) = 0#8 := by decide
    rw [hpar, hdata, BitVec.xor_zero, Bool.xor_true]
    simp
  · have hbit : ∀ k < 8, framePar (1#11 <<< (k + 1)) = false ∧ frameData (1#11 <<< (k + 1)) = 1#8 <<< k := by decide
    obtain ⟨k, rfl⟩ := Nat.exists_eq_add_of_le' h1
    obtain ⟨hpar, hdata⟩ := hbit k (by omega)
    rw [hpar, hdata, Bool.xor_false, oddParity_flip _ (by omega)]
    simp

/-- Settles O7: the fields of a line frame, and what a flip does to them. -/
theorem lineFramesRoundTripAndShowSingleFlips : Obligations.LineFramesRoundTripAndShowSingleFlips := by
  intro b
  obtain ⟨hstart, hstop⟩ := lineFrame_start_stop (oddParity b) b
  have hpar : framePar (ps2Frame b) = oddParity b := framePar_lineFrame _ b
  have hdata : frameData (ps2Frame b) = b := frameData_lineFrame _ b
  refine ⟨countP_add_oddParity b, hstart, fun i hi => ?bits, hpar, hstop, toNat_lineFrame _ b, ?unframe,
    fun i => parity_test_fails_of_flip (by rw [hpar, hdata])⟩
  case bits => rw [← getLsbD_frameData _ hi, hdata]
  case unframe => rw [ps2Frame, ps2Unframe_lineFrame, beq_self_eq_true]

end Sys2Proof.Machine

/-! PROOFS. The PS/2 task: initialisation, the classes of received word, and the poll step by step. -/

namespace Sys2Proof.Machine

/-! ### The PHY line and the logs -/

theorem State.raise_setPhy (s : State) (d : Dev) (p : Phy) (x : ErrEvent) :
    (s.raise x).setPhy d p = (s.setPhy d p).raise x := by
  cases d <;> rfl

theorem State.setPhy_applyPhy (s : State) (d : Dev) (p : Phy) (o : PhyOut) :
    (s.setPhy d p).applyPhy d o = s.applyPhy d o := by
  cases d <;> rfl

theorem State.applyPhy_setPhy (s : State) (d : Dev) (o : PhyOut) (p : Phy) :
    (s.applyPhy d o).setPhy d p = s.applyPhy d { o with phy := p } := by
  cases d <;> rfl

/-- An operation that leaves its PHY line alone and raises two error events. -/
theorem State.applyPhy_raise_raise (s : State) (d : Dev) (x y : ErrEvent) :
    s.applyPhy d { phy := s.phy d, errs := [x, y], events := [] } = (s.raise x).raise y := by
  simp [State.applyPhy, State.raise]

/-! ### A word pushed past the gate (rules R189, R191, R192, R332) -/

section
variable {c : Config} {p : Phy}

theorem Phy.pushTx_of_lt (f : LineFrame) (h : p.txf.length < c.txfDepth) :
    p.pushTx c f = { p with txf := p.txf ++ [f] } := by
  rw [Phy.pushTx, pushed_of_lt f h]

theorem Phy.pushTx_of_le (f : LineFrame) (h : c.txfDepth ≤ p.txf.length) : p.pushTx c f = p := by
  rw [Phy.pushTx, pushed_of_le f h]

theorem Phy.pushTxErrs_of_lt (d : Dev) (h : p.txf.length < c.txfDepth) : p.pushTxErrs c d = [] := by
  rw [Phy.pushTxErrs, pushOk_of_lt h, if_pos rfl]

theorem Phy.pushTxErrs_of_le (d : Dev) (h : c.txfDepth ≤ p.txf.length) : p.pushTxErrs c d = [.txFifoFull d] := by
  rw [Phy.pushTxErrs, pushOk_of_le h, if_neg Bool.false_ne_true]

end

/-! ### Initialisation (rules R180, R181) -/

/-- Before `PS2_INIT` a poll does nothing. -/
theorem exec_ps2Task_uninit {s : State} {d : Dev} (hi : (s.phy d).inited = false) :
    exec (.ps2Task d) s = .next s := by
  simp only [exec, execPs2Task, hi, Bool.false_eq_true, if_false]

/-- Before `PS2_INIT` a byte is refused. -/
theorem exec_ps2Enq_uninit {s : State} {d : Dev} (b : Byte) (hi : (s.phy d).inited = false) :
    exec (.ps2Enq d b) s = .next (s.returning false) := by
  simp only [exec, execPs2Enq, hi, Bool.false_eq_true, if_false]

/-- Settles O20: the PHY `PS2_INIT` leaves, and the three operations before it. -/
theorem initClearsAndOpensTheInstance : Obligations.InitClearsAndOpensTheInstance :=
  fun _ _ => ⟨rfl, fun hi => ⟨exec_ps2Task_uninit hi, fun hClk hData => exec_engStep_uninit hClk hData hi,
    fun b => exec_ps2Enq_uninit b hi⟩⟩

/-! ### The classes of received word (rules R191 to R193) -/

/-- Settles O25: the NAK and the replay, with room in the transmit FIFO and without, and the delivery. -/
theorem receivedWordClassesAct : Obligations.ReceivedWordClassesAct := by
  rintro s d p par data rfl
  refine ⟨fun hroom => ⟨?nak, ?replay⟩, fun hfull => ⟨?nakLost, ?replayLost⟩, ?deliver⟩
  case nak =>
    simp only [exec, execRxBadparity, State.rxBadParity, Phy.pushTx_of_lt _ hroom, Phy.pushTxErrs_of_lt d hroom,
      List.nil_append, State.applyPhy_raise]
  case replay =>
    simp only [exec, execRxResend, State.rxResend, Phy.pushTx_of_lt _ hroom, Phy.pushTxErrs_of_lt d hroom,
      List.append_nil, State.applyPhy_raise]
  case nakLost =>
    simp only [exec, execRxBadparity, State.rxBadParity, Phy.pushTx_of_le _ hfull, Phy.pushTxErrs_of_le d hfull,
      List.singleton_append, State.applyPhy_raise_raise]
  case replayLost =>
    simp only [exec, execRxResend, State.rxResend, Phy.pushTx_of_le _ hfull, Phy.pushTxErrs_of_le d hfull,
      List.singleton_append, State.applyPhy_raise_raise]
  case deliver => simp only [exec, execRxData, State.rxDeliver, State.applyPhy_wire]

/-! ### T1 to T3, one rule at a time (rules R184 to R188) -/

section
variable {c : Config} {p : Phy}

theorem taskPacketise_of_byteq_nil (d : Dev) (h : p.byteq = []) : taskPacketise c d p = (p, []) := if_pos h

/-- T1 with bytes waiting: the new queues, and what the state becomes with the events raised. -/
theorem taskPacketise_of_waiting {s u : State} {d : Dev} {q : List Packet} (h : p.byteq ≠ [])
    (hq : (p.packq.length < s.cfg.packqDepth ∧ q = p.packq ++ [{ bytes := p.byteq.take s.cfg.packMax }] ∧ u = s) ∨
      (s.cfg.packqDepth ≤ p.packq.length ∧ q = p.packq ∧ u = s.raise (.packetQueueFull d))) :
    ∃ errs, taskPacketise s.cfg d p = ({ p with byteq := p.byteq.drop s.cfg.packMax, packq := q }, errs) ∧
      ∀ r, s.applyPhy d { phy := r, errs := errs, events := [] } = u.setPhy d r := by
  obtain ⟨hroom, rfl, rfl⟩ | ⟨hfull, rfl, rfl⟩ := hq
  · exact ⟨[], by rw [taskPacketise, if_neg h, pushed_of_lt _ hroom, pushOk_of_lt hroom, if_pos rfl],
      State.applyPhy_quiet _ d⟩
  · refine ⟨[.packetQueueFull d], ?_, fun r => by rw [State.applyPhy_raise, State.raise_setPhy]⟩
    rw [taskPacketise, if_neg h, pushed_of_le _ hfull, pushOk_of_le hfull, if_neg Bool.false_ne_true]

/-- The gate of T2 is open (rule R185). -/
theorem taskGate_eq_true_iff : taskGate c p = true ↔
    p.txf = [] ∧ (p.inited = true ∧ p.eng.st = .idle ∧ c.idleHold ≤ p.eng.idleCnt) ∧ p.err = false := by
  simp [taskGate, Phy.busIdle, and_assoc]

/-- Behind a shut gate T2 and T3 do nothing. -/
theorem taskRecover_taskTransmit_shut (he : p.err = false)
    (h : p.packq = [] ∨ p.txf ≠ [] ∨ p.eng.st ≠ .idle ∨ p.eng.idleCnt < c.idleHold) :
    taskRecover (taskTransmit c p) = p := by
  have hkeep : taskTransmit c p = p := by
    obtain hq | h := h
    · simp only [taskTransmit, hq]
    · refine taskTransmit_of_gate (Bool.eq_false_iff.2 fun hg => ?_)
      obtain ⟨ht, ⟨-, hst, hidle⟩, -⟩ := taskGate_eq_true_iff.1 hg
      obtain h | h | h := h
      · exact h ht
      · exact h hst
      · exact absurd hidle (Nat.not_le.2 h)
  rw [hkeep, taskRecover, he, if_neg Bool.false_ne_true]

/-- After a transmit error T2 is shut and T3 rewinds (rule R188). -/
theorem taskRecover_taskTransmit_rewind (he : p.err = true) :
    taskRecover (taskTransmit c p) = { p with sent := 0, txf := [], err := false } := by
  have hgate : taskGate c p = false := by simp [taskGate, he]
  rw [taskTransmit_of_gate hgate, taskRecover, if_pos he]

section
variable (hg : taskGate c p = true) {pk : Packet} {rest : List Packet} (hq : p.packq = pk :: rest)
include hg hq

/-- Through an open gate T2 retires the head packet once all of it is handed over (rule R186). -/
theorem taskRecover_taskTransmit_retire (hs : p.sent = pk.bytes.length) :
    taskRecover (taskTransmit c p) = { p with sent := 0, packq := rest } := by
  obtain ⟨-, -, he⟩ := taskGate_eq_true_iff.1 hg
  simp only [taskTransmit, hq, hg, if_true, if_pos hs, taskRecover, he, Bool.false_eq_true, if_false]

/-- Through an open gate T2 hands over the next byte of the head packet (rule R187). -/
theorem taskRecover_taskTransmit_send (hs : p.sent < pk.bytes.length) (hc : 1 ≤ c.txfDepth) :
    taskRecover (taskTransmit c p) =
      { p with sent := p.sent + 1, lastTx := pk.bytes[p.sent], txf := [ps2Frame pk.bytes[p.sent]] } := by
  obtain ⟨ht, -, he⟩ := taskGate_eq_true_iff.1 hg
  have hpush (f : LineFrame) : pushed c.txfDepth [] f = [f] := pushed_of_lt f hc
  simp only [taskTransmit, hq, hg, if_true, if_neg hs.ne, List.getElem?_eq_getElem hs, ht, hpush, taskRecover, he,
    Bool.false_eq_true, if_false]

end

end

/-! ### T1 to T3 look at nothing received, and what T4 adds (rules R183, R189) -/

/-- The PHY `p` with another receive FIFO and another receive error flag, which T1 to T3 do not look at. -/
def Phy.withRx (p : Phy) (rxf : List RxWord) (rxFerr : Bool) : Phy := { p with rxf := rxf, rxFerr := rxFerr }

/-- What the steps T1 to T3 leave and raise; `taskHead` is these and then T4. -/
def taskFront (c : Config) (d : Dev) (p : Phy) : PhyOut :=
  { phy := taskRecover (taskTransmit c (taskPacketise c d p).1), errs := (taskPacketise c d p).2, events := [] }

section
variable (c : Config) (d : Dev) (p : Phy) (rxf : List RxWord) (rxFerr : Bool)

theorem taskPacketise_withRx : taskPacketise c d (p.withRx rxf rxFerr) =
    ((taskPacketise c d p).1.withRx rxf rxFerr, (taskPacketise c d p).2) := by
  have hbyteq : (p.withRx rxf rxFerr).byteq = p.byteq := rfl
  simp only [taskPacketise, hbyteq]
  split <;> rfl

theorem taskTransmit_withRx : taskTransmit c (p.withRx rxf rxFerr) = (taskTransmit c p).withRx rxf rxFerr := by
  have hgate : taskGate c (p.withRx rxf rxFerr) = taskGate c p := rfl
  have hpackq : (p.withRx rxf rxFerr).packq = p.packq := rfl
  have hsent : (p.withRx rxf rxFerr).sent = p.sent := rfl
  simp only [taskTransmit, hgate, hpackq, hsent]
  repeat' split
  all_goals rfl

theorem taskRecover_withRx : taskRecover (p.withRx rxf rxFerr) = (taskRecover p).withRx rxf rxFerr := by
  have herr : (p.withRx rxf rxFerr).err = p.err := rfl
  simp only [taskRecover, herr]
  split <;> rfl

theorem taskFront_withRx : taskFront c d (p.withRx rxf rxFerr) =
    { taskFront c d p with phy := (taskFront c d p).phy.withRx rxf rxFerr } := by
  simp only [taskFront, taskPacketise_withRx, taskTransmit_withRx, taskRecover_withRx]

/-- T1 to T3 neither pop a received word nor clear the error. -/
theorem taskFront_keeps : (taskFront c d p).phy.rxf = p.rxf ∧ (taskFront c d p).phy.rxFerr = p.rxFerr := by
  have h : (taskFront c d p).phy = (taskFront c d p).phy.withRx p.rxf p.rxFerr :=
    congrArg PhyOut.phy (taskFront_withRx c d p p.rxf p.rxFerr)
  rw [h]
  exact ⟨rfl, rfl⟩

end

section
variable {c : Config} {d : Dev} {p : Phy}

theorem taskHead_eq_taskNak : taskHead c d p =
    { phy := (taskNak c d (taskFront c d p).phy).1
      errs := (taskFront c d p).errs ++ (taskNak c d (taskFront c d p).phy).2, events := [] } := rfl

theorem taskHead_of_rxFerr_false (h : p.rxFerr = false) : taskHead c d p = taskFront c d p := by
  obtain ⟨-, hf⟩ := taskFront_keeps c d p
  rw [taskHead_eq_taskNak, taskNak, hf, h, if_neg Bool.false_ne_true, List.append_nil]
  rfl

theorem taskHead_of_rxFerr_true (h : p.rxFerr = true) : taskHead c d p =
    { phy := { (taskFront c d p).phy.pushTx c (ps2Frame c.resendByte) with rxFerr := false }
      errs := (taskFront c d p).errs ++ (taskFront c d p).phy.pushTxErrs c d, events := [] } := by
  obtain ⟨-, hf⟩ := taskFront_keeps c d p
  rw [taskHead_eq_taskNak, taskNak, hf, h, if_pos rfl]

theorem taskNak_withRx (rxf : List RxWord) : taskNak c d (p.withRx rxf p.rxFerr) =
    ((taskNak c d p).1.withRx rxf (taskNak c d p).1.rxFerr, (taskNak c d p).2) := by
  have hf : (p.withRx rxf p.rxFerr).rxFerr = p.rxFerr := rfl
  simp only [taskNak, hf]
  split <;> rfl

/-- T1 to T4 do not look at the receive FIFO. -/
theorem taskHead_withRx (rxf : List RxWord) : taskHead c d (p.withRx rxf p.rxFerr) =
    { taskHead c d p with phy := (taskHead c d p).phy.withRx rxf (taskHead c d p).phy.rxFerr } := by
  obtain ⟨-, hf⟩ := taskFront_keeps c d p
  rw [taskHead_eq_taskNak, taskFront_withRx, ← hf]
  dsimp only
  rw [taskNak_withRx]
  rfl

end

/-! ### A poll with nothing received -/

section
variable {s : State} {d : Dev} {p : Phy} (hs : s.phy d = p) (hi : p.inited = true) (hrx : p.rxf = [])
  (hf : p.rxFerr = false)
include hs hi hrx hf

/-- With no receive frame error either, a poll is its steps T1 to T3. -/
theorem exec_ps2Task_eq_taskFront : exec (.ps2Task d) s = .next (s.applyPhy d (taskFront s.cfg d p)) := by
  subst hs
  exact exec_ps2Task_empty hi (taskHead_of_rxFerr_false hf) hrx

/-- The same poll, T1 and then T2 and T3 worked out. -/
theorem exec_ps2Task_of_steps {q r : Phy} {errs : List ErrEvent} (h1 : taskPacketise s.cfg d p = (q, errs))
    (h3 : taskRecover (taskTransmit s.cfg q) = r) :
    exec (.ps2Task d) s = .next (s.applyPhy d { phy := r, errs := errs, events := [] }) := by
  rw [exec_ps2Task_eq_taskFront hs hi hrx hf, taskFront, h1, h3]

theorem exec_ps2Task_of_byteq_nil {r : Phy} (hb : p.byteq = []) (h3 : taskRecover (taskTransmit s.cfg p) = r) :
    exec (.ps2Task d) s = .next (s.setPhy d r) := by
  rw [exec_ps2Task_of_steps hs hi hrx hf (taskPacketise_of_byteq_nil d hb) h3, State.applyPhy_quiet]

/-- With no bytes waiting, a poll behind a shut gate changes nothing. -/
theorem exec_ps2Task_shut (hb : p.byteq = []) (he : p.err = false)
    (h : p.packq = [] ∨ p.txf ≠ [] ∨ p.eng.st ≠ .idle ∨ p.eng.idleCnt < s.cfg.idleHold) :
    exec (.ps2Task d) s = .next s := by
  rw [exec_ps2Task_of_byteq_nil hs hi hrx hf hb (taskRecover_taskTransmit_shut he h), ← hs, State.setPhy_phy_eq]

end

/-- Settles O22: the queues T1 leaves, and on them the four things T2 and T3 can do. -/
theorem pollPacketisesWaitingBytes : Obligations.PollPacketisesWaitingBytes := by
  intro s d p hs hi hb hf hrx q u hq
  obtain ⟨errs, h1, hu⟩ := taskPacketise_of_waiting hb hq
  have poll {r : Phy}
      (h3 : taskRecover (taskTransmit s.cfg { p with byteq := p.byteq.drop s.cfg.packMax, packq := q }) = r) :
      exec (.ps2Task d) s = .next (u.setPhy d r) := by
    rw [exec_ps2Task_of_steps hs hi hrx hf h1 h3, hu]
  refine ⟨fun he hshut => ?shut, fun he ht hst hidle hc pk rest hpk => ?gateOpen, fun he => ?rewind⟩
  case shut => exact poll (taskRecover_taskTransmit_shut he hshut)
  case gateOpen =>
    have hg : taskGate s.cfg { p with byteq := p.byteq.drop s.cfg.packMax, packq := q } = true :=
      taskGate_eq_true_iff.2 ⟨ht, ⟨hi, hst, hidle⟩, he⟩
    exact ⟨fun hsent => poll (taskRecover_taskTransmit_retire hg hpk hsent),
      fun hsent => poll (taskRecover_taskTransmit_send hg hpk hsent hc)⟩
  case rewind => exact poll (taskRecover_taskTransmit_rewind he)

/-- Settles O23: the four things T2 and T3 can do, T1 having nothing to do. -/
theorem pollRetiresSendsOrRewinds : Obligations.PollRetiresSendsOrRewinds := by
  intro s d p hs hi hb hf hrx
  refine ⟨fun he ht hst hidle hc pk rest hpk => ?gateOpen, exec_ps2Task_shut hs hi hrx hf hb, fun he => ?rewind⟩
  case gateOpen =>
    have hg : taskGate s.cfg p = true := taskGate_eq_true_iff.2 ⟨ht, ⟨hi, hst, hidle⟩, he⟩
    exact ⟨fun hsent => exec_ps2Task_of_byteq_nil hs hi hrx hf hb (taskRecover_taskTransmit_retire hg hpk hsent),
      fun hsent => exec_ps2Task_of_byteq_nil hs hi hrx hf hb (taskRecover_taskTransmit_send hg hpk hsent hc)⟩
  case rewind => exact exec_ps2Task_of_byteq_nil hs hi hrx hf hb (taskRecover_taskTransmit_rewind he)

/-- After a receive frame error a poll is the same poll without the error, and then the push of one NAK (rule R189). -/
theorem exec_ps2Task_frameError {s t : State} {d : Dev} {p : Phy} (hs : s.phy d = p) (hi : p.inited = true)
    (hrx : p.rxf = []) (hf : p.rxFerr = true)
    (ht : exec (.ps2Task d) (s.setPhy d (p.withRx p.rxf false)) = .next t) :
    exec (.ps2Task d) s = .next (t.applyPhy d
      { phy := (t.phy d).pushTx s.cfg (ps2Frame s.cfg.resendByte), errs := (t.phy d).pushTxErrs s.cfg d
        events := [] }) := by
  obtain ⟨hkeep, -⟩ := taskFront_keeps s.cfg d p
  rw [exec_ps2Task_eq_taskFront (State.setPhy_phy_self s d (p.withRx p.rxf false)) hi hrx rfl, State.setPhy_cfg,
    State.setPhy_applyPhy, taskFront_withRx, ← hkeep] at ht
  cases ht
  subst hs
  rw [exec_ps2Task_empty hi (taskHead_of_rxFerr_true hf) hrx, State.applyPhy_applyPhy, State.applyPhy_phy_self]
  rfl

/-- Settles O24: the NAK pushed with room in the transmit FIFO and without, on the poll without the error; that poll
changes nothing behind a shut gate. -/
theorem pollAnswersAFrameErrorWithANak : Obligations.PollAnswersAFrameErrorWithANak := by
  intro s d p hs hi hrx hf
  have nak {t : State} (ht : exec (.ps2Task d) (s.setPhy d (p.withRx p.rxf false)) = .next t) :
      ((t.phy d).txf.length < s.cfg.txfDepth → exec (.ps2Task d) s =
        .next (t.setPhy d { t.phy d with txf := (t.phy d).txf ++ [ps2Frame s.cfg.resendByte] })) ∧
      (s.cfg.txfDepth ≤ (t.phy d).txf.length → exec (.ps2Task d) s = .next (t.raise (.txFifoFull d))) := by
    rw [exec_ps2Task_frameError hs hi hrx hf ht]
    refine ⟨fun hroom => ?_, fun hfull => ?_⟩
    · rw [Phy.pushTx_of_lt _ hroom, Phy.pushTxErrs_of_lt d hroom, State.applyPhy_quiet]
    · rw [Phy.pushTx_of_le _ hfull, Phy.pushTxErrs_of_le d hfull, State.applyPhy_raise, State.setPhy_phy_eq]
  refine ⟨fun hb he hshut => ?_, _, exec_ps2Task_eq_taskFront (State.setPhy_phy_self s d _) hi hrx rfl,
    nak (exec_ps2Task_eq_taskFront (State.setPhy_phy_self s d _) hi hrx rfl)⟩
  have hquiet := nak (exec_ps2Task_shut (State.setPhy_phy_self s d (p.withRx p.rxf false)) hi hrx rfl hb he
    (by rw [State.setPhy_cfg]; exact hshut))
  rw [State.setPhy_phy_self, State.setPhy_setPhy] at hquiet
  exact hquiet

/-! ### A poll with a received word -/

/-- Settles O11: T1 to T4, then the word's class; with nothing received T1 to T4 are the same but for the FIFO. -/
theorem pollRunsTheReceivedWord : Obligations.PollRunsTheReceivedWord := by
  intro s d hi h
  obtain ⟨hrxf, -, -⟩ := taskHead_keeps s.cfg d (s.phy d)
  refine ⟨hrxf, fun hnil => exec_ps2Task_empty hi rfl (hrxf.symm.trans hnil), fun w rest hcons => ?_⟩
  have hpoll : exec (.ps2Task d) s =
      exec (decodeRxw s.cfg d w) ((s.applyPhy d h).setPhy d { h.phy with rxf := rest }) := by
    have hword := exec_decodeRxw ((s.applyPhy d h).setPhy d { h.phy with rxf := rest }) d w
    rw [State.setPhy_cfg, State.applyPhy_cfg] at hword
    rw [hword, exec_ps2Task_cons hi (hrxf.symm.trans hcons)]
  have hquiet : exec (.ps2Task d) (s.setPhy d { s.phy d with rxf := [] }) =
      .next (s.applyPhy d { h with phy := { h.phy with rxf := [] } }) := by
    have hhead : taskHead s.cfg d { s.phy d with rxf := [] } = { h with phy := { h.phy with rxf := [] } } :=
      taskHead_withRx []
    rw [exec_ps2Task_empty (by rwa [State.setPhy_phy_self]) rfl (by rw [State.setPhy_phy_self]), State.setPhy_phy_self,
      State.setPhy_cfg, hhead, State.setPhy_applyPhy]
  refine ⟨hpoll, _, hquiet, by rw [State.applyPhy_phy_self], ?_⟩
  rw [hpoll, State.applyPhy_phy_self, State.applyPhy_setPhy, State.applyPhy_setPhy]

/-- A received word with good parity, put together from its byte (rule R113). -/
theorem eq_rxWord_of_parity {w : RxWord} (h : rxTag w = oddParity (rxByte w)) :
    w = rxWord (oddParity (rxByte w)) (rxByte w) := by
  rw [← h, rxWord_rxTag_rxByte]

section
variable (s : State) (d : Dev)

theorem State.rxDeliver_phy (data : Byte) : (s.rxDeliver d data).phy d =
    { s.phy d with byteq := [], packq := [], sent := 0, lastRx := data } := State.applyPhy_phy_self s d _

theorem State.rxDeliver_trace (data : Byte) :
    (s.rxDeliver d data).trace = s.trace ++ [.ps2Rx d data (s.phy d).lastRx] := State.applyPhy_trace s d _

/-- A NAK and a replay deliver nothing. -/
theorem State.rxBadParity_quiet : (s.rxBadParity d).trace = s.trace ∧
    ((s.rxBadParity d).phy d).rxf = (s.phy d).rxf ∧ ((s.rxBadParity d).phy d).lastRx = (s.phy d).lastRx := by
  simp [State.rxBadParity, Phy.pushTx]

theorem State.rxResend_quiet : (s.rxResend d).trace = s.trace ∧
    ((s.rxResend d).phy d).rxf = (s.phy d).rxf ∧ ((s.rxResend d).phy d).lastRx = (s.phy d).lastRx := by
  simp [State.rxResend, Phy.pushTx]

/-- A received word is answered, with nothing delivered, or it has good parity and its byte, not the sentinel, is
delivered. -/
theorem State.rxDispatch_cases (w : RxWord) :
    ((s.rxDispatch d w).trace = s.trace ∧
      ((s.rxDispatch d w).phy d).rxf = (s.phy d).rxf ∧ ((s.rxDispatch d w).phy d).lastRx = (s.phy d).lastRx) ∨
    (s.rxDispatch d w = s.rxDeliver d (rxByte w) ∧
      rxByte w ≠ s.cfg.resendByte ∧ w = rxWord (oddParity (rxByte w)) (rxByte w)) := by
  unfold State.rxDispatch
  split
  · exact .inl (s.rxBadParity_quiet d)
  · next hpar =>
    split
    · exact .inl (s.rxResend_quiet d)
    · next hne => exact .inr ⟨rfl, hne, eq_rxWord_of_parity (not_not.1 hpar)⟩

end

/-- Settles O26: nothing before `PS2_INIT`, T1 to T4 alone with nothing received, else the head word's class. -/
theorem pollDeliversAtMostOneByte : Obligations.PollDeliversAtMostOneByte := by
  intro s d
  obtain ⟨hrxf, hlast, hevents⟩ := taskHead_keeps s.cfg d (s.phy d)
  cases hi : (s.phy d).inited with
  | false => exact ⟨s, exec_ps2Task_uninit hi, nofun, .inl ⟨rfl, rfl⟩⟩
  | true =>
    cases hq : (s.phy d).rxf with
    | nil =>
      refine ⟨_, exec_ps2Task_empty hi rfl hq, fun _ => ?_, .inl ⟨?_, ?_⟩⟩
      · rw [State.applyPhy_phy_self, hrxf, hq, List.tail_nil]
      · rw [State.applyPhy_trace, hevents, List.append_nil]
      · rw [State.applyPhy_phy_self, hlast]
    | cons w rest =>
      generalize hu : (s.applyPhy d (taskHead s.cfg d (s.phy d))).setPhy d
        { (taskHead s.cfg d (s.phy d)).phy with rxf := rest } = u
      have hpoll : exec (.ps2Task d) s = .next (u.rxDispatch d w) := hu ▸ exec_ps2Task_cons hi hq
      have htrace : u.trace = s.trace := by rw [← hu]; simp [hevents]
      have hcfg : u.cfg = s.cfg := by rw [← hu]; simp
      have hurxf : (u.phy d).rxf = rest := by rw [← hu]; simp
      have hulast : (u.phy d).lastRx = (s.phy d).lastRx := by rw [← hu]; simp [hlast]
      refine ⟨_, hpoll, ?_⟩
      obtain ⟨ht, hr, hl⟩ | ⟨hd, hne, hw⟩ := u.rxDispatch_cases d w
      · exact ⟨fun _ => hr.trans hurxf, .inl ⟨ht.trans htrace, hl.trans hulast⟩⟩
      · rw [hd, State.rxDeliver_phy, State.rxDeliver_trace, htrace, hulast]
        exact ⟨fun _ => hurxf, .inr ⟨rxByte w, rfl, rfl, hcfg ▸ hne, congrArg some hw, rfl, rfl, rfl⟩⟩

end Sys2Proof.Machine

/-! PROOFS. The chain of delivered bytes (rules R98, R194): every instruction but `PS2_INIT` of the line and `RESET`
pairs what it delivers with the last byte, and so does every run. -/

namespace Sys2Proof.Machine

theorem pairChain_cons_ps2Rx {d : Dev} {a b cur prev : Byte} {es : List Event} :
    PairChain d a (.ps2Rx d cur prev :: es) b ↔ prev = a ∧ PairChain d cur es b := by
  rw [PairChain, if_pos rfl]

/-- An event that delivers no byte from the line leaves its chain as it is. -/
theorem pairChain_cons_other {d : Dev} {a b : Byte} {e : Event} {es : List Event}
    (h : ∀ cur prev, e ≠ .ps2Rx d cur prev) : PairChain d a (e :: es) b ↔ PairChain d a es b := by
  cases e with
  | ps2Rx e cur prev =>
    have hne : e ≠ d := by
      rintro rfl
      exact h cur prev rfl
    rw [PairChain, if_neg hne]
  | _ => rfl

theorem pairChain_of_other {d : Dev} {a : Byte} {es : List Event} (h : ∀ e ∈ es, ∀ cur prev, e ≠ .ps2Rx d cur prev) :
    PairChain d a es a := by
  induction es with
  | nil => rfl
  | cons e es ih =>
    exact (pairChain_cons_other (h e (.head es))).2 (ih fun x hx => h x (.tail e hx))

theorem pairChain_append {d : Dev} {a b c : Byte} {es fs : List Event} (h : PairChain d a es b)
    (k : PairChain d b fs c) : PairChain d a (es ++ fs) c := by
  induction es generalizing a with
  | nil => cases h; exact k
  | cons e es ih =>
    by_cases he : ∃ cur prev, e = .ps2Rx d cur prev
    · obtain ⟨cur, prev, rfl⟩ := he
      obtain ⟨hprev, h⟩ := pairChain_cons_ps2Rx.1 h
      exact pairChain_cons_ps2Rx.2 ⟨hprev, ih h⟩
    · push Not at he
      exact (pairChain_cons_other he).2 (ih ((pairChain_cons_other he).1 h))

/-- The events from `s` to `t` deliver bytes of line `d` as a chain from the last byte of `s` to that of `t`. -/
def State.Paired (d : Dev) (s t : State) : Prop :=
  ∃ es, t.trace = s.trace ++ es ∧ PairChain d (s.phy d).lastRx es (t.phy d).lastRx

namespace State.Paired

variable {d : Dev} {s t u : State}

theorem refl (d : Dev) (s : State) : Paired d s s := ⟨[], (List.append_nil _).symm, rfl⟩

theorem trans (h : Paired d s t) (k : Paired d t u) : Paired d s u := by
  obtain ⟨es, hes, hchain⟩ := h
  obtain ⟨fs, hfs, kchain⟩ := k
  exact ⟨es ++ fs, by rw [hfs, hes, List.append_assoc], pairChain_append hchain kchain⟩

/-- Nothing is delivered from the line and its last byte stays. -/
theorem of_other {es : List Event} (htrace : t.trace = s.trace ++ es) (hlast : (t.phy d).lastRx = (s.phy d).lastRx)
    (h : ∀ e ∈ es, ∀ cur prev, e ≠ .ps2Rx d cur prev) : Paired d s t :=
  ⟨es, htrace, hlast ▸ pairChain_of_other h⟩

theorem of_quiet (htrace : t.trace = s.trace) (hlast : (t.phy d).lastRx = (s.phy d).lastRx) : Paired d s t :=
  of_other (htrace.trans (List.append_nil _).symm) hlast nofun

/-- One byte is delivered, with the last one before it, and remembered. -/
theorem of_delivery {cur : Byte} (htrace : t.trace = s.trace ++ [.ps2Rx d cur (s.phy d).lastRx])
    (hlast : (t.phy d).lastRx = cur) : Paired d s t :=
  ⟨_, htrace, pairChain_cons_ps2Rx.2 ⟨rfl, hlast.symm⟩⟩

/-- The events of another line. -/
theorem of_phySide {e : Dev} (hne : e ≠ d) (h : PhySide e s t) : Paired d s t := by
  obtain ⟨es, htrace, hline⟩ := h.trace
  refine of_other htrace (by rw [h.other d hne.symm]) fun x hx cur prev hrx => ?_
  obtain ⟨_, _, rfl⟩ | ⟨_, _, rfl⟩ := hline x hx
  · cases hrx
  · cases hrx
    exact hne rfl

end State.Paired

/-- An engine step keeps the last received byte. -/
theorem engSlot_lastRx {c : Config} {d : Dev} {p : Phy} {hClk hData : Bool} {o : PhyOut}
    (h : engSlot c d p hClk hData = some o) : o.phy.lastRx = p.lastRx := by
  unfold engSlot engIdle engIdleHigh engTransmitting engReceiving at h
  repeat' split at h
  all_goals cases h <;> rfl

/-- An instruction of no PHY line, `RESET` apart, emits no event of a PHY line. -/
theorem exec_offLine_events {i : Instr} {s t : State} (hline : phyLine i = none) (hr : ∀ m, i ≠ .reset m)
    (h : exec i s = .next t) : ∃ es, t.trace = s.trace ++ es ∧ ∀ e ∈ es, phyEvent e = false := by
  cases i with
  | reset m => exact absurd rfl (hr m)
  | linkByte b =>
    cases h
    unfold State.linkByte
    dsimp only
    split
    · exact (State.UsbSide.refl s).trace
    · exact (State.UsbSide.handle ((s.storeLinkByte b).setFidx 0) _).trace
  | linkTickMs =>
    cases h
    unfold State.linkTick
    split
    · exact (State.UsbSide.refl s).trace
    · split
      · exact (State.UsbSide.linkTimeout s.discardFrame).trace
      · exact (State.UsbSide.refl s).trace
  | linkResync => cases h; exact (State.UsbSide.raise s.discardFrame _).trace
  | outSetKbd m => cases h; exact (State.UsbSide.outSetKbd s m).trace
  | outSetMouse m => cases h; exact (State.UsbSide.outSetMouse s m).trace
  | hidSync susp kr mr ko mo => cases h; exact (State.UsbSide.hidSync s _ _ _ _ _).trace
  | hidKey code pressed => cases h; exact (State.UsbSide.hidKey s _ _).trace
  | hidMbtn sel st => cases h; exact (State.UsbSide.hidMbtn s _ _).trace
  | hidMabs x y => cases h; exact (State.UsbSide.hidMabs s _ _).trace
  | hidMrel dx dy => cases h; exact (State.UsbSide.hidMrel s _ _).trace
  | hidMwheel hz v => cases h; exact (State.UsbSide.hidMwheel s _ _).trace
  | cmdPing | cmdRepeat | cmdSetConnected => cases h; exact (State.UsbSide.respond s _).trace
  | cmdClearHid => cases h; exact (State.UsbSide.cmdClearHid s).trace
  | cmdSetKbd m => cases h; exact (State.UsbSide.cmdSetKbd s m).trace
  | cmdSetMouse m => cases h; exact (State.UsbSide.cmdSetMouse s m).trace
  | cmdKey code pressed => cases h; exact (State.UsbSide.cmdKey s _ _).trace
  | cmdMouseAbs x y => cases h; exact (State.UsbSide.cmdMouseAbs s _ _).trace
  | cmdMouseBtn sel st => cases h; exact (State.UsbSide.cmdMouseBtn s _ _).trace
  | cmdMouseWheel hz v => cases h; exact (State.UsbSide.cmdMouseWheel s _ _).trace
  | cmdMouseRel dx dy => cases h; exact (State.UsbSide.cmdMouseRel s _ _).trace
  | cmdUnknown cmd => cases h; exact (State.UsbSide.cmdUnknown s).trace
  | frameInvalid f => cases h; exact (State.UsbSide.frameInvalid s).trace
  | ps2Init d | ps2Enq d b | ps2Task d | engStep d a b | rxBadparity d p b | rxResend d | rxData d p b
  | ps2Frame d p b => cases hline
  | _ => cases h; exact (State.UsbSide.refl s).trace

namespace State.Paired

variable {d : Dev} {s t : State}

theorem of_offLine {i : Instr} (hline : phyLine i = none) (hr : ∀ m, i ≠ .reset m) (h : exec i s = .next t) :
    Paired d s t := by
  obtain ⟨es, htrace, hes⟩ := exec_offLine_events hline hr h
  refine of_other htrace (by rw [(exec_offLine hline hr h).phy d]) ?_
  rintro e he cur prev rfl
  exact Bool.noConfusion (hes _ he)

theorem ps2Enq {b : Byte} (h : exec (.ps2Enq d b) s = .next t) : Paired d s t := by
  cases hi : (s.phy d).inited with
  | false =>
    cases (exec_ps2Enq_uninit b hi).symm.trans h
    exact of_quiet rfl (by cases d <;> rfl)
  | true =>
    simp only [exec, execPs2Enq, hi, if_true] at h
    cases h
    exact of_quiet (by simp [State.enqueue]) (by cases d <;> simp [State.enqueue, State.setPhy])

theorem ps2Task (h : exec (.ps2Task d) s = .next t) : Paired d s t := by
  obtain ⟨u, hu, -, ⟨htrace, hlast⟩ | ⟨cur, htrace, hlast, -⟩⟩ := pollDeliversAtMostOneByte s d
  · cases hu.symm.trans h
    exact of_quiet htrace hlast
  · cases hu.symm.trans h
    exact of_delivery htrace hlast

theorem engStep {hClk hData : Bool} (h : exec (.engStep d hClk hData) s = .next t) : Paired d s t := by
  cases hi : (s.phy d).inited with
  | false =>
    cases (exec_engStep_uninit hClk hData hi).symm.trans h
    exact refl d s
  | true =>
    cases ho : engSlot s.cfg d (s.phy d) hClk hData with
    | none => cases (exec_engStep_none hi ho).symm.trans h
    | some o =>
      cases (exec_engStep hi ho).symm.trans h
      obtain ⟨pulse, data, he⟩ := engSlot_events ho
      refine of_other (State.applyPhy_trace s d o) (by rw [State.applyPhy_phy_self, engSlot_lastRx ho]) ?_
      simp [he]

/-- Every instruction but `PS2_INIT` of the line and `RESET` carries the chain on. -/
theorem of_exec {i : Instr} (hinit : i ≠ .ps2Init d) (hr : ∀ m, i ≠ .reset m) (h : exec i s = .next t) :
    Paired d s t := by
  cases hline : phyLine i with
  | none => exact of_offLine hline hr h
  | some e =>
    by_cases hne : e = d
    · subst hne
      cases i with
      | ps2Init e' => cases hline; exact absurd rfl hinit
      | ps2Enq e' b => cases hline; exact ps2Enq h
      | ps2Task e' => cases hline; exact ps2Task h
      | engStep e' hClk hData => cases hline; exact engStep h
      | rxBadparity e' par data =>
        cases hline; cases h
        obtain ⟨htrace, -, hlast⟩ := s.rxBadParity_quiet e
        exact of_quiet htrace hlast
      | rxResend e' =>
        cases hline; cases h
        obtain ⟨htrace, -, hlast⟩ := s.rxResend_quiet e
        exact of_quiet htrace hlast
      | rxData e' par data =>
        cases hline; cases h
        exact of_delivery (s.rxDeliver_trace e data) (by rw [State.rxDeliver_phy])
      | ps2Frame e' par data =>
        cases hline; cases h
        exact of_quiet (State.setPhy_trace s e _) (by rw [State.setPhy_phy_self]; rfl)
      | _ => cases hline
    · exact of_phySide hne (exec_phySide hline h)

end State.Paired

theorem runInstrs_cons_eq_next {i : Instr} {is : List Instr} {s t : State} :
    runInstrs (i :: is) s = .next t ↔ ∃ u, exec i s = .next u ∧ runInstrs is u = .next t := by
  rw [runInstrs]
  cases exec i s <;> simp

/-- Settles O27: by induction on the list, each instruction carries the chain on. -/
theorem deliveredBytesArePairedWithTheirPredecessor : Obligations.DeliveredBytesArePairedWithTheirPredecessor := by
  intro d is s t his hrun
  change State.Paired d s t
  induction is generalizing s with
  | nil =>
    cases hrun
    exact .refl d _
  | cons i is ih =>
    obtain ⟨hinit, hr⟩ := his i (.head is)
    obtain ⟨u, hu, hrest⟩ := runInstrs_cons_eq_next.1 hrun
    exact (State.Paired.of_exec hinit hr hu).trans (ih u (fun j hj => his j (.tail i hj)) hrest)

end Sys2Proof.Machine

/-! PROOFS. The keyboard: the branches of `HID_KEY`, the slots after a press and after a release, and `HID_SYNC` with
nothing to send on the mouse. -/

namespace Sys2Proof.Machine

/-! ### The branches of `HID_KEY` (rule R210) -/

section

variable {s : State} {code : Byte}

theorem State.hidKey_dropped (pressed : Bool) (h : s.out.kbdMode ≠ .usb ∨ code = 0) : s.hidKey code pressed = s := by
  rcases h with hmode | h0
  · exact if_pos hmode
  · simp [State.hidKey, h0]

theorem State.hidKey_modifier (pressed : Bool) (hmode : s.out.kbdMode = .usb) (hm : isModifier code = true) :
    s.hidKey code pressed = { s with kbd := s.kbd.modifierKey code pressed } := by
  have h0 : code ≠ 0 := by
    rintro rfl
    exact absurd hm (by decide)
  rw [State.hidKey, if_neg (not_not.2 hmode), if_neg h0, if_pos hm]

theorem State.hidKey_regular (pressed : Bool) (hmode : s.out.kbdMode = .usb) (h0 : code ≠ 0)
    (hr : code < 0xE0#8 ∨ 0xE7#8 < code) :
    s.hidKey code pressed = { s with kbd := s.kbd.regularKey s.cfg.keyPolicy code pressed } := by
  rw [State.hidKey, if_neg (not_not.2 hmode), if_neg h0, if_neg (by simp [isModifier_eq_false hr])]

end

/-- Settles O28: the two dropping branches of `HID_KEY`. -/
theorem keyIsDroppedOutsideUsbModeAndForCodeZero : Obligations.KeyIsDroppedOutsideUsbModeAndForCodeZero :=
  fun _ _ pressed h => congrArg Host.Outcome.next (State.hidKey_dropped pressed h)

/-! ### Modifiers (rule R211) -/

/-- The eight modifier codes are `0xE0` plus the number of their bit. -/
theorem isModifier_add {i : Nat} (hi : i < 8) : isModifier (0xE0#8 + BitVec.ofNat 8 i) = true := by
  simp only [isModifier, Bool.and_eq_true, decide_eq_true_eq]
  constructor <;> bv_omega

theorem modAfter_add (mod : Byte) {i : Nat} (pressed : Bool) (hi : i < 8) :
    modAfter mod (0xE0#8 + BitVec.ofNat 8 i) pressed = setBit mod i pressed := by
  have hbit : (0xE0#8 + BitVec.ofNat 8 i - 0xE0#8).toNat = i := by bv_omega
  rw [modAfter, hbit]

/-- Settles O29: the byte written is `modAfter`, a single-bit write. -/
theorem modifierKeyWritesItsBit : Obligations.ModifierKeyWritesItsBit := by
  intro s i pressed hmode hi
  refine ⟨_, congrArg Host.Outcome.next (State.hidKey_modifier pressed hmode (isModifier_add hi)), fun k hk => ?_⟩
  rw [modAfter_add s.kbd.mod pressed hi, getLsbD_setBit s.kbd.mod pressed hk]

/-! ### The press of a regular code (rules R212 to R215) -/

theorem findSlot_eq_some {keys : Vector Byte 6} {code : Byte} {j : Fin 6} (hj : keys[j] = code)
    (hlow : ∀ i : Fin 6, i < j → keys[i] ≠ code) : findSlot keys code = some j := by
  cases h : findSlot keys code with
  | none => exact absurd hj (findSlot_eq_none.1 h j)
  | some i =>
    have hij : ¬ i < j := fun hlt => hlow i hlt (findSlot_get h)
    have hji : ¬ j < i := fun hlt => findSlot_lt h hlt hj
    rw [le_antisymm (not_lt.1 hji) (not_lt.1 hij)]

section

variable {keys : Vector Byte 6} {code : Byte}

theorem pressSlots_held (policy : KeyPolicy) (h : ∃ j : Fin 6, keys[j] = code) :
    pressSlots policy keys code = keys := by
  obtain ⟨j, hj⟩ := h
  cases hf : findSlot keys code with
  | none => exact absurd hj (findSlot_eq_none.1 hf j)
  | some i => simp [pressSlots, hf]

theorem pressSlots_free (policy : KeyPolicy) (hnew : ∀ j : Fin 6, keys[j] ≠ code) {j : Fin 6} (hj : keys[j] = 0)
    (hlow : ∀ i : Fin 6, i < j → keys[i] ≠ 0) : pressSlots policy keys code = keys.set j code := by
  simp only [pressSlots, findSlot_eq_none.2 hnew, findSlot_eq_some hj hlow]

theorem pressSlots_overwrite (hnew : ∀ j : Fin 6, keys[j] ≠ code) (hfull : ∀ j : Fin 6, keys[j] ≠ 0) :
    pressSlots .overwriteSlot0 keys code = keys.set 0 code := by
  simp only [pressSlots, findSlot_eq_none.2 hnew, findSlot_eq_none.2 hfull]

theorem pressSlots_drop (hnew : ∀ j : Fin 6, keys[j] ≠ code) (hfull : ∀ j : Fin 6, keys[j] ≠ 0) :
    pressSlots .dropNew keys code = keys := by
  simp only [pressSlots, findSlot_eq_none.2 hnew, findSlot_eq_none.2 hfull]

theorem keys_set_ne_self {j : Fin 6} (h : keys[j] ≠ code) : keys.set j code ≠ keys := by
  intro he
  have hget : (keys.set j code)[j] = code := by simp
  exact h ((congrArg (·[j]) he).symm.trans hget)

end

section

variable {k : Kbd} {policy : KeyPolicy} {code : Byte}

/-- A press that leaves the slots as they are leaves the keyboard as it is. -/
theorem Kbd.regularKey_unchanged (h : pressSlots policy k.keys code = k.keys) : k.regularKey policy code true = k := by
  simp [Kbd.regularKey, h]

/-- A press that puts a code into a slot that did not hold it sets `dirty`. -/
theorem Kbd.regularKey_stored {j : Fin 6} (hj : k.keys[j] ≠ code)
    (h : pressSlots policy k.keys code = k.keys.set j code) :
    k.regularKey policy code true = { k with keys := k.keys.set j code, dirty := true } := by
  have hne : (k.keys.set j code != k.keys) = true := bne_iff_ne.2 (keys_set_ne_self hj)
  simp [Kbd.regularKey, h, hne]

end

/-- Settles O30: what a press answers follows from the slots it leaves, case by case. -/
theorem regularKeyPressAllocatesASlot : Obligations.RegularKeyPressAllocatesASlot := by
  intro s code hmode h0 hr
  have hexec : ∀ k, s.kbd.regularKey s.cfg.keyPolicy code true = k →
      exec (.hidKey code true) s = .next { s with kbd := k } := by
    rintro k rfl
    exact congrArg Host.Outcome.next (State.hidKey_regular true hmode h0 hr)
  refine ⟨fun hheld => ?held, fun hnew => ⟨fun j hj hlow => ?free, fun hfull => ⟨fun hp => ?overwrite, fun hp => ?drop⟩⟩⟩
  case held => exact hexec _ (Kbd.regularKey_unchanged (pressSlots_held _ hheld))
  case free => exact hexec _ (Kbd.regularKey_stored (hnew j) (pressSlots_free _ hnew hj hlow))
  case overwrite => exact hexec _ (Kbd.regularKey_stored (j := 0) (hnew 0) (hp ▸ pressSlots_overwrite hnew hfull))
  case drop => exact hexec _ (Kbd.regularKey_unchanged (hp ▸ pressSlots_drop hnew hfull))

/-! ### The release of a regular code (rule R216) -/

/-- The slots change exactly when one of them held the code. -/
theorem releaseSlots_ne_self_iff {keys : Vector Byte 6} {code : Byte} (h0 : code ≠ 0) :
    releaseSlots keys code ≠ keys ↔ ∃ j : Fin 6, keys[j] = code := by
  constructor
  · contrapose!
    intro hnew
    refine Vector.ext fun i hi => ?_
    have hget := releaseSlots_get keys code ⟨i, hi⟩
    rw [if_neg (hnew ⟨i, hi⟩)] at hget
    exact hget
  · rintro ⟨j, hj⟩ he
    have hget := releaseSlots_get keys code j
    rw [he, if_pos hj, hj] at hget
    exact h0 hget

/-- Settles O31: slot by slot, and `dirty` by whether the slots changed. -/
theorem regularKeyReleaseFreesItsSlot : Obligations.RegularKeyReleaseFreesItsSlot := by
  intro s code hmode h0 hr
  refine ⟨_, congrArg Host.Outcome.next (State.hidKey_regular false hmode h0 hr), ?slots, ?dirty, rfl⟩
  case slots => exact releaseSlots_get s.kbd.keys code
  case dirty =>
    rw [← releaseSlots_ne_self_iff h0, ← bne_iff_ne]
    exact Bool.or_eq_true_iff

/-! ### `HID_SYNC` with nothing to send on the mouse (rules R220, R253, R333) -/

theorem State.hidSync_mouse_unwanted {s : State} (kr mr ko mo : Bool) (h : s.mouseWants = false) :
    s.hidSync false kr mr ko mo = s.syncKbd false kr ko := by
  obtain ⟨hmouse, hout⟩ := s.syncKbd_mouse false kr ko
  have hwants : (s.syncKbd false kr ko).mouseWants = false := by rw [State.mouseWants, hmouse, hout]; exact h
  rw [State.hidSync_awake, State.syncMouse_unwanted _ _ _ hwants]

/-- Settles O37: only the keyboard part acts. -/
theorem syncSendsTheKeyboardReport : Obligations.SyncSendsTheKeyboardReport := by
  intro s kr mr ko mo hm
  have hexec : ∀ (kr ko : Bool) (t : State), s.syncKbd false kr ko = t →
      exec (.hidSync false kr mr ko mo) s = .next t := by
    rintro kr ko t rfl
    exact congrArg Host.Outcome.next (State.hidSync_mouse_unwanted kr mr ko mo (State.mouseWants_eq_false hm))
  refine ⟨fun hidle => ?idle, fun hmode hpend => ?pending⟩
  case idle => exact hexec kr ko s (State.syncKbd_unwanted false kr ko (State.kbdWants_eq_false hidle))
  case pending =>
    have hwants := State.kbdWants_eq_true hmode hpend
    refine ⟨?_, hexec false ko _ (State.syncKbd_unready ko hwants)⟩
    rintro e rfl
    exact ⟨hexec true true _ (State.syncKbd_sent hwants), hexec true false _ (State.syncKbd_failed hwants)⟩

end Sys2Proof.Machine

/-! PROOFS. The mouse: the modes of its operations, what they store, the scaled position, and `HID_SYNC` with a mouse
report pending, alone and after the keyboard's. -/

namespace Sys2Proof.Machine

/-! ### The modes of the mouse operations (rules R230, R235) -/

section

variable {m : MouseMode}

theorem usbMouse_eq_true_iff : usbMouse m = true ↔ m = .usbAbs ∨ m = .usbRel ∨ m = .usbLegacyAbs := by
  cases m <;> decide

theorem usbMouse_eq_false_iff : usbMouse m = false ↔ m = .none ∨ m = .ps2 := by
  cases m <;> decide

theorem absMouse_eq_true_iff : absMouse m = true ↔ m = .usbAbs ∨ m = .usbLegacyAbs := by
  cases m <;> decide

theorem absMouse_eq_false_iff : absMouse m = false ↔ m = .none ∨ m = .ps2 ∨ m = .usbRel := by
  cases m <;> decide

theorem relMouse_eq_false_iff : relMouse m = false ↔ m ≠ .usbRel := by
  cases m <;> decide

end

/-! ### Storing only on a change (rules R231 to R234) -/

section

variable {s : State} {active : Bool} {P : Prop} [Decidable P]

/-- In its mode an operation that stores on a change always leaves its operands stored: without a change they were there
already, and `dirty` stays. -/
theorem State.storeMouse_active {m : Mouse} {changed : Bool} (ha : active = true) (hP : P ↔ changed = true)
    (hsame : ¬ P → { m with dirty := s.mouse.dirty } = s.mouse) :
    (if active = true ∧ P then { s with mouse := { m with dirty := true } } else s) =
      { s with mouse := { m with dirty := s.mouse.dirty || changed } } := by
  by_cases hc : P
  · rw [if_pos ⟨ha, hc⟩, hP.1 hc, Bool.or_true]
  · have hf : changed = false := Bool.eq_false_iff.2 (hc ∘ hP.2)
    rw [if_neg (fun h => hc h.2), hf, Bool.or_false, hsame hc]

theorem State.storeMouse_inactive {t : State} (ha : active = false) : (if active = true ∧ P then t else s) = s :=
  if_neg fun h => absurd h.1 (by simp [ha])

end

section

variable {s : State}

theorem State.hidMbtn_usb (sel st : Byte) (h : usbMouse s.out.mouseMode = true) :
    s.hidMbtn sel st = { s with mouse := { s.mouse with
      buttons := buttonsAfter s.mouse.buttons sel st
      dirty := s.mouse.dirty || buttonsAfter s.mouse.buttons sel st != s.mouse.buttons } } :=
  State.storeMouse_active (m := { s.mouse with buttons := buttonsAfter s.mouse.buttons sel st }) h bne_iff_ne.symm
    fun hc => by rw [not_not.1 hc]

theorem State.hidMbtn_dropped (sel st : Byte) (h : usbMouse s.out.mouseMode = false) : s.hidMbtn sel st = s :=
  State.storeMouse_inactive h

theorem State.hidMabs_abs (x y : Half) (h : absMouse s.out.mouseMode = true) :
    s.hidMabs x y = { s with mouse := { s.mouse with
      ax := x, ay := y, dirty := s.mouse.dirty || (x != s.mouse.ax || y != s.mouse.ay) } } :=
  State.storeMouse_active (m := { s.mouse with ax := x, ay := y }) h (by simp) fun hc => by
    obtain ⟨rfl, rfl⟩ : x = s.mouse.ax ∧ y = s.mouse.ay := by simpa using hc
    rfl

theorem State.hidMabs_dropped (x y : Half) (h : absMouse s.out.mouseMode = false) : s.hidMabs x y = s :=
  State.storeMouse_inactive h

theorem State.hidMrel_rel (dx dy : Byte) (h : relMouse s.out.mouseMode = true) :
    s.hidMrel dx dy = { s with mouse := { s.mouse with
      dx := dx, dy := dy, dirty := s.mouse.dirty || (dx != s.mouse.dx || dy != s.mouse.dy) } } :=
  State.storeMouse_active (m := { s.mouse with dx := dx, dy := dy }) h (by simp) fun hc => by
    obtain ⟨rfl, rfl⟩ : dx = s.mouse.dx ∧ dy = s.mouse.dy := by simpa using hc
    rfl

theorem State.hidMrel_dropped (dx dy : Byte) (h : relMouse s.out.mouseMode = false) : s.hidMrel dx dy = s :=
  State.storeMouse_inactive h

theorem State.hidMwheel_usb (hz v : Byte) (h : usbMouse s.out.mouseMode = true) :
    s.hidMwheel hz v =
      { s with mouse := { s.mouse with wheel := v, dirty := s.mouse.dirty || v != s.mouse.wheel } } :=
  State.storeMouse_active (m := { s.mouse with wheel := v }) h bne_iff_ne.symm fun hc => by rw [not_not.1 hc]

theorem State.hidMwheel_dropped (hz v : Byte) (h : usbMouse s.out.mouseMode = false) : s.hidMwheel hz v = s :=
  State.storeMouse_inactive h

end

/-- Bits 0..4 of `sel` select; every other button keeps its value. -/
theorem getLsbD_buttonsAfter (buttons sel st : Byte) {k : Nat} (hk : k < 8) :
    (buttonsAfter buttons sel st).getLsbD k =
      if k ≤ 4 ∧ sel.getLsbD k = true then st.getLsbD k else buttons.getLsbD k := by
  have hmask : (0x1F#8).getLsbD k = decide (k ≤ 4) := by
    revert k
    decide
  have hsel : (sel &&& 0x1F#8).getLsbD k = decide (k ≤ 4 ∧ sel.getLsbD k = true) := by
    rw [BitVec.getLsbD_and, hmask, Bool.and_comm, Bool.decide_and, Bool.decide_eq_true]
  rw [buttonsAfter, BitVec.getLsbD_or, BitVec.getLsbD_and, BitVec.getLsbD_and, BitVec.getLsbD_not, hsel]
  split
  · next h => rw [decide_eq_true h]; simp
  · next h => rw [decide_eq_false h]; simp [hk]

/-- Settles O32: the buttons written are `buttonsAfter`. -/
theorem mouseButtonsSelectAndState : Obligations.MouseButtonsSelectAndState := by
  intro s sel st
  refine ⟨fun husb => ⟨_, congrArg Host.Outcome.next (State.hidMbtn_usb sel st husb), fun k hk => ?bits⟩,
    fun hmode => ?dropped⟩
  case bits => exact getLsbD_buttonsAfter s.mouse.buttons sel st hk
  case dropped => exact congrArg Host.Outcome.next (State.hidMbtn_dropped sel st (usbMouse_eq_false_iff.2 hmode))

/-- Settles O33: each operation stores in its modes and is dropped in the others. -/
theorem mouseMotionStoresItsOperandsByMode : Obligations.MouseMotionStoresItsOperandsByMode := by
  intro s
  refine ⟨fun x y => ⟨fun h => ?_, fun h => ?_⟩, fun dx dy => ⟨fun h => ?_, fun h => ?_⟩,
    fun hz v => ⟨fun h => ?_, fun h => ?_⟩⟩
  · exact congrArg Host.Outcome.next (State.hidMabs_abs x y (absMouse_eq_true_iff.2 h))
  · exact congrArg Host.Outcome.next (State.hidMabs_dropped x y (absMouse_eq_false_iff.2 h))
  · exact congrArg Host.Outcome.next (State.hidMrel_rel dx dy (by rw [h, relMouse]))
  · exact congrArg Host.Outcome.next (State.hidMrel_dropped dx dy (relMouse_eq_false_iff.2 h))
  · exact congrArg Host.Outcome.next (State.hidMwheel_usb hz v (usbMouse_eq_true_iff.2 h))
  · exact congrArg Host.Outcome.next (State.hidMwheel_dropped hz v (usbMouse_eq_false_iff.2 h))

/-! ### The scaled position (rule R237) -/

/-- Narrowing to 16 bits loses nothing: the quotient is within 0..32767. -/
theorem toNat_scaleFull (v : Half) : ((scaleFull v).toNat : Int) = (v.toInt + 32768) / 2 := by
  have hlo := BitVec.le_toInt v
  have hhi := BitVec.toInt_lt (x := v)
  rw [scaleFull, BitVec.toNat_ofInt]
  omega

theorem scaleAbs_of_absMax {c : Config} (h : c.absMax = 0x7FFF#16) (v : Half) : scaleAbs c v = scaleFull v := if_pos h

theorem scaleAbs_le (c : Config) (v : Half) : (scaleAbs c v).toNat ≤ c.absMax.toNat := by
  by_cases h : c.absMax = 0x7FFF#16
  · have hfull := toNat_scaleFull v
    have hhi := BitVec.toInt_lt (x := v)
    have htop : c.absMax.toNat = 32767 := by rw [h]; rfl
    rw [scaleAbs_of_absMax h, htop]
    omega
  · rw [scaleAbs, if_neg h]
    split
    · next hle => exact BitVec.le_def.1 hle
    · exact le_rfl

/-- Settles O34: the range, the formula, and its monotony. -/
theorem scaledPositionIsInRangeAndMonotone : Obligations.ScaledPositionIsInRangeAndMonotone := by
  intro c
  refine ⟨scaleAbs_le c, fun h => ?_⟩
  have hformula : ∀ v : Half, ((scaleAbs c v).toNat : Int) = (v.toInt + 32768) / 2 := fun v => by
    rw [scaleAbs_of_absMax h, toNat_scaleFull]
  refine ⟨hformula, fun v w hvw => ?monotone⟩
  have hv := hformula v
  have hw := hformula w
  omega

/-! ### `HID_SYNC` with a mouse report pending (rules R238, R253, R254) -/

/-- The report of each USB mouse mode. -/
theorem mouseReport_of_mode {c : Config} {mode : MouseMode} {m : Mouse} {bytes : List Byte}
    (h : (mode = .usbAbs ∨ mode = .usbLegacyAbs) ∧ bytes = m.absReport c ∨ mode = .usbRel ∧ bytes = m.relReport) :
    usbMouse mode = true ∧ mouseReport c mode m = bytes := by
  obtain ⟨rfl | rfl, rfl⟩ | ⟨rfl, rfl⟩ := h
  all_goals exact ⟨rfl, rfl⟩

theorem State.hidSync_kbd_unwanted {s : State} (kr mr ko mo : Bool) (h : s.kbdWants = false) :
    s.hidSync false kr mr ko mo = s.syncMouse false mr mo := by
  rw [State.hidSync_awake, State.syncKbd_unwanted _ _ _ h]

/-- Settles O38: only the mouse part acts. -/
theorem syncSendsTheMouseReport : Obligations.SyncSendsTheMouseReport := by
  intro s kr mr ko mo hk hpend
  have hexec : ∀ (mr mo : Bool) (t : State), s.syncMouse false mr mo = t →
      exec (.hidSync false kr mr ko mo) s = .next t := by
    rintro mr mo t rfl
    exact congrArg Host.Outcome.next (State.hidSync_kbd_unwanted kr mr ko mo (State.kbdWants_eq_false hk))
  refine ⟨fun bytes hbytes => ?usb, fun hmode => ?dropped⟩
  case usb =>
    obtain ⟨husb, rfl⟩ := mouseReport_of_mode hbytes
    have hwants := State.mouseWants_eq_true husb hpend
    exact ⟨hexec true true _ (State.syncMouse_sent hwants), hexec true false _ (State.syncMouse_failed hwants),
      hexec false mo _ (State.syncMouse_unready mo hwants)⟩
  case dropped =>
    have hwants := State.mouseWants_eq_false (s := s) (.inl (usbMouse_eq_false_iff.2 hmode))
    exact hexec mr mo s (State.syncMouse_unwanted false mr mo hwants)

theorem State.syncKbd_mouseWants (s : State) (susp ready ok : Bool) :
    (s.syncKbd susp ready ok).mouseWants = s.mouseWants := by
  obtain ⟨hmouse, hout⟩ := s.syncKbd_mouse susp ready ok
  rw [State.mouseWants, hmouse, hout, State.mouseWants]

/-- The keyboard part with a report pending, for every outcome at once. -/
theorem State.syncKbd_wanted {s : State} (ready ok : Bool) (h : s.kbdWants = true) :
    s.syncKbd false ready ok = { s with
      kbd := if ready && ok then s.kbd.afterSend else s.kbd
      trace := s.trace ++ (if ready then [.usbSend .kbd s.kbd.report] else [])
      raised := s.raised ++ (if ready && ok then [] else [.usbNotReady]) } := by
  cases ready with
  | false => simp [State.syncKbd_unready ok h, State.raise]
  | true =>
    cases ok with
    | false => simp [State.syncKbd_failed h, State.raise, State.emit]
    | true => simp [State.syncKbd_sent h]

/-- The mouse part with a report pending, for every outcome at once. -/
theorem State.syncMouse_wanted {s : State} (ready ok : Bool) (h : s.mouseWants = true) :
    s.syncMouse false ready ok = { s with
      mouse := if ready && ok then s.mouse.afterSend else s.mouse
      trace := s.trace ++ (if ready then [.usbSend .mouse (mouseReport s.cfg s.out.mouseMode s.mouse)] else [])
      raised := s.raised ++ (if ready && ok then [] else [.usbNotReady]) } := by
  cases ready with
  | false => simp [State.syncMouse_unready ok h, State.raise]
  | true =>
    cases ok with
    | false => simp [State.syncMouse_failed h, State.raise, State.emit]
    | true => simp [State.syncMouse_sent h]

/-- Settles O39: the keyboard part, then the mouse part on the state it leaves. -/
theorem syncSendsTheKeyboardBeforeTheMouse : Obligations.SyncSendsTheKeyboardBeforeTheMouse := by
  rintro s kr mr ko mo hmode hkbd hmouse _ _ bytes hbytes rfl rfl
  obtain ⟨husb, rfl⟩ := mouseReport_of_mode hbytes
  have hk := State.kbdWants_eq_true hmode hkbd
  have hm : (s.syncKbd false kr ko).mouseWants = true := by
    rw [State.syncKbd_mouseWants, State.mouseWants_eq_true husb hmouse]
  have hsync := State.hidSync_awake s kr mr ko mo
  rw [State.syncMouse_wanted mr mo hm, State.syncKbd_wanted kr ko hk] at hsync
  exact congrArg Host.Outcome.next hsync

end Sys2Proof.Machine

/-! PROOFS. Clearing, the 1-ms samples, `HID_SYNC` on a suspended bus, and output selection. -/

namespace Sys2Proof.Machine

/-! ### The 1-ms samples (rules R250 to R252, R262) -/

namespace Iface

variable {x : Iface} {hystMs : Nat}

/-- A not-ready sample changes nothing while offline (rule R252). -/
theorem tick_unready_offline (h : x.online = false) : x.tick hystMs false = x := by
  simp [Iface.tick, Iface.sampledUnready, h]

/-- A not-ready sample below the threshold counts one (rule R252). -/
theorem tick_unready_counts (h : x.online = true) (hlt : x.unreadyMs + 1 < hystMs) :
    x.tick hystMs false = { x with unreadyMs := x.unreadyMs + 1 } := by
  simp [Iface.tick, Iface.sampledUnready, h, Nat.not_le.2 hlt]

/-- The not-ready sample that reaches the threshold takes the interface offline (rule R252). -/
theorem tick_unready_expires (h : x.online = true) (hle : hystMs ≤ x.unreadyMs + 1) :
    x.tick hystMs false = { x with online := false, unreadyMs := 0 } := by
  simp [Iface.tick, Iface.sampledUnready, h, hle]

/-- A not-ready sample keeps both flags (rule R252). -/
theorem tick_unready_flags : (x.tick hystMs false).dirty = x.dirty ∧ (x.tick hystMs false).force = x.force := by
  cases h : x.online with
  | false => rw [tick_unready_offline h]; exact ⟨rfl, rfl⟩
  | true =>
    rcases Nat.lt_or_ge (x.unreadyMs + 1) hystMs with hlt | hle
    · rw [tick_unready_counts h hlt]; exact ⟨rfl, rfl⟩
    · rw [tick_unready_expires h hle]; exact ⟨rfl, rfl⟩

/-- Rules R251, R252: everything a sample does to an interface. -/
theorem tick_sample (x : Iface) (hystMs : Nat) (ready : Bool) :
    (x.tick hystMs ready).dirty = x.dirty ∧
      (ready = true → (x.tick hystMs ready).online = true ∧ (x.tick hystMs ready).unreadyMs = 0 ∧
        ((x.tick hystMs ready).force = true ↔ x.force = true ∨ x.online = false)) ∧
      (ready = false → (x.tick hystMs ready).force = x.force ∧
        (x.online = false → x.tick hystMs ready = x) ∧
        (x.online = true → x.unreadyMs + 1 < hystMs →
          (x.tick hystMs ready).online = true ∧ (x.tick hystMs ready).unreadyMs = x.unreadyMs + 1) ∧
        (x.online = true → hystMs ≤ x.unreadyMs + 1 →
          (x.tick hystMs ready).online = false ∧ (x.tick hystMs ready).unreadyMs = 0)) := by
  cases ready with
  | true => exact ⟨rfl, fun _ => ⟨rfl, rfl, by simp [Iface.tick, Iface.sampledReady]⟩, nofun⟩
  | false =>
    obtain ⟨hdirty, hforce⟩ := x.tick_unready_flags (hystMs := hystMs)
    refine ⟨hdirty, nofun, fun _ => ⟨hforce, tick_unready_offline, fun hon hlt => ?counts, fun hon hle => ?expires⟩⟩
    case counts => rw [tick_unready_counts hon hlt]; exact ⟨hon, rfl⟩
    case expires => rw [tick_unready_expires hon hle]; exact ⟨rfl, rfl⟩

end Iface

/-- Settles O35: the sample is the same for both interfaces. -/
theorem tickSamplesBothInterfaces : Obligations.TickSamplesBothInterfaces := by
  intro s kr mr
  refine ⟨s.hidTick kr mr, rfl, rfl, fun q hq => ?_⟩
  rcases List.mem_pair.1 hq with rfl | rfl
  · exact s.kbd.toIface.tick_sample s.cfg.hystMs kr
  · exact s.mouse.toIface.tick_sample s.cfg.hystMs mr

/-- `x` after `n` not-ready samples, when it was online with count 0. -/
def Iface.unreadyFor (x : Iface) (hystMs n : Nat) : Iface :=
  { x with online := decide (n < hystMs), unreadyMs := if n < hystMs then n else 0 }

namespace Iface

variable {x : Iface} {hystMs : Nat}

theorem unreadyFor_zero (hon : x.online = true) (hcount : x.unreadyMs = 0) (hh : 0 < hystMs) :
    x.unreadyFor hystMs 0 = x := by
  rw [unreadyFor, decide_eq_true hh, if_pos hh, ← hon, ← hcount]

theorem tick_unreadyFor {n : Nat} (hn : n < hystMs) :
    (x.unreadyFor hystMs n).tick hystMs false = x.unreadyFor hystMs (n + 1) := by
  have hon : (x.unreadyFor hystMs n).online = true := decide_eq_true hn
  have hcount : (x.unreadyFor hystMs n).unreadyMs = n := if_pos hn
  rcases Nat.lt_or_ge (n + 1) hystMs with hlt | hle
  · rw [tick_unready_counts hon (by rwa [hcount]), hcount]
    simp [unreadyFor, hn, hlt]
  · rw [tick_unready_expires hon (by rwa [hcount])]
    simp [unreadyFor, Nat.not_lt.2 hle]

theorem foldl_tick_unready {α : Type} (os : List α) {n : Nat} (hn : n + os.length ≤ hystMs) :
    os.foldl (fun y _ => y.tick hystMs false) (x.unreadyFor hystMs n) = x.unreadyFor hystMs (n + os.length) := by
  induction os generalizing n with
  | nil => rfl
  | cons o os ih =>
    rw [List.length_cons] at hn ⊢
    rw [List.foldl_cons, tick_unreadyFor (by omega), ih (by omega), Nat.add_right_comm, Nat.add_assoc]

end Iface

/-- A run of ticks samples each interface once per tick. -/
theorem runInstrs_hidTicks {α : Type} (kr mr : α → Bool) (os : List α) (s : State) :
    ∃ t, runInstrs (os.map fun o => .hidTickMs (kr o) (mr o)) s = .next t ∧
      t.kbd = { s.kbd with toIface := os.foldl (fun x o => x.tick s.cfg.hystMs (kr o)) s.kbd.toIface } ∧
      t.mouse = { s.mouse with toIface := os.foldl (fun x o => x.tick s.cfg.hystMs (mr o)) s.mouse.toIface } := by
  induction os generalizing s with
  | nil => exact ⟨s, rfl, rfl, rfl⟩
  | cons o os ih => exact ih (s.hidTick (kr o) (mr o))

/-- Settles O36: the ticks sample each interface on its own, and each not-ready sample moves it one on. -/
theorem offlineAfterExactlyHystSamples : Obligations.OfflineAfterExactlyHystSamples := by
  rintro s _ os rfl hle hpos
  have hfold : ∀ x : Iface, x.online = true → x.unreadyMs = 0 →
      os.foldl (fun y _ => y.tick s.cfg.hystMs false) x = x.unreadyFor s.cfg.hystMs os.length := by
    intro x hon hcount
    have h := Iface.foldl_tick_unready (x := x) os (n := 0) ((Nat.zero_add _).trans_le hle)
    rwa [Iface.unreadyFor_zero hon hcount hpos, Nat.zero_add] at h
  refine ⟨fun hon hcount => ?kbd, fun hon hcount => ?mouse⟩
  case kbd =>
    obtain ⟨t, hrun, hkbd, -⟩ := runInstrs_hidTicks (fun _ => false) id os s
    rw [hfold _ hon hcount] at hkbd
    exact ⟨t, hrun, by rw [hkbd]; exact decide_eq_true_iff, by rw [hkbd]; rfl, by rw [hkbd]; rfl⟩
  case mouse =>
    obtain ⟨t, hrun, -, hmouse⟩ := runInstrs_hidTicks id (fun _ => false) os s
    rw [hfold _ hon hcount] at hmouse
    exact ⟨t, hrun, by rw [hmouse]; exact decide_eq_true_iff, by rw [hmouse]; rfl, by rw [hmouse]; rfl⟩

/-! ### `HID_SYNC` on a suspended bus (rules R255, R334) -/

/-- Nothing is sent: each pending interface logs one event, and one wakeup is requested for both. -/
theorem State.hidSync_suspended (s : State) (kr mr ko mo : Bool) :
    s.hidSync true kr mr ko mo = { s with
      trace := s.trace ++ (if s.kbdWants || s.mouseWants then [.usbRemoteWakeup] else [])
      raised := s.raised ++ (if s.kbdWants then [.usbSuspended] else []) ++
        (if s.mouseWants then [.usbSuspended] else []) } := by
  have hparts : (s.syncKbd true kr ko).syncMouse true mr mo = { s with
      raised := s.raised ++ (if s.kbdWants then [.usbSuspended] else []) ++
        (if s.mouseWants then [.usbSuspended] else []) } := by
    have hm := s.syncKbd_mouseWants true kr ko
    cases hmw : s.mouseWants with
    | false =>
      rw [State.syncMouse_unwanted _ _ _ (hm.trans hmw)]
      cases hkw : s.kbdWants with
      | false => simp [State.syncKbd_unwanted _ _ _ hkw]
      | true => simp [State.syncKbd_suspended _ _ hkw, State.raise]
    | true =>
      rw [State.syncMouse_suspended _ _ (hm.trans hmw)]
      cases hkw : s.kbdWants with
      | false => simp [State.syncKbd_unwanted _ _ _ hkw, State.raise]
      | true => simp [State.syncKbd_suspended _ _ hkw, State.raise]
  simp only [State.hidSync, State.wantsWakeup, Bool.true_and, hparts]
  split <;> simp [State.emit]

/-- Settles O40: what the two interfaces want decides the one request. -/
theorem suspendedSyncRequestsOneWakeup : Obligations.SuspendedSyncRequestsOneWakeup := by
  intro s kr mr ko mo
  refine ⟨_, congrArg Host.Outcome.next (s.hidSync_suspended kr mr ko mo), rfl, fun hpend => ?pending, ?idle⟩
  case pending =>
    have hwants : (s.kbdWants || s.mouseWants) = true := by
      rw [Bool.or_eq_true]
      exact hpend.imp (fun ⟨hmode, hp⟩ => State.kbdWants_eq_true hmode hp)
        (fun ⟨hmode, hp⟩ => State.mouseWants_eq_true hmode hp)
    simp [hwants]
  case idle =>
    rintro ⟨hk, hm⟩
    simp [State.kbdWants_eq_false hk, State.mouseWants_eq_false hm]

/-! ### Clearing (rule R256) -/

theorem Kbd.clear_keys (k : Kbd) (j : Fin 6) : k.clear.keys[j] = 0 := by
  fin_cases j <;> rfl

/-- Settles O41: the cleared state itself. -/
theorem clearReleasesEverything : Obligations.ClearReleasesEverything :=
  fun s => ⟨s.hidClear, rfl, s.kbd.clear_keys, rfl, rfl, rfl, rfl⟩

/-! ### Output selection (rules R257 to R259, R335) -/

theorem selectKbd_eq_none {c : Config} {mode : ModeCode}
    (h : decodeKbd c mode = none ∨ ∃ m, decodeKbd c mode = some m ∧ kbdAvailable c m = false) :
    selectKbd c mode = none := by
  rcases h with h | ⟨m, h, ha⟩
  · simp [selectKbd, h]
  · simp [selectKbd, h, ha]

theorem selectMouse_eq_none {c : Config} {mode : ModeCode}
    (h : decodeMouse c mode = none ∨ ∃ m, decodeMouse c mode = some m ∧ mouseAvailable c m = false) :
    selectMouse c mode = none := by
  rcases h with h | ⟨m, h, ha⟩
  · simp [selectMouse, h]
  · simp [selectMouse, h, ha]

section
variable {s : State} {mode : ModeCode}

theorem State.outSetKbd_selected {m : KbdMode} (h : selectKbd s.cfg mode = some m) :
    s.outSetKbd mode = (s.switchKbd m, true) := by
  simp [State.outSetKbd, h]

theorem State.outSetKbd_refused (h : selectKbd s.cfg mode = none) :
    s.outSetKbd mode = (s.raise .modeUnavailable, false) := by
  simp [State.outSetKbd, h]

theorem State.outSetMouse_selected {m : MouseMode} (h : selectMouse s.cfg mode = some m) :
    s.outSetMouse mode = (s.switchMouse m, true) := by
  simp [State.outSetMouse, h]

theorem State.outSetMouse_refused (h : selectMouse s.cfg mode = none) :
    s.outSetMouse mode = (s.raise .modeUnavailable, false) := by
  simp [State.outSetMouse, h]

theorem exec_outSetKbd {u : State} {b : Bool} (h : s.outSetKbd mode = (u, b)) :
    exec (.outSetKbd mode) s = .next (u.returning b) := by
  simp only [exec, execOutSetKbd, h]

theorem exec_outSetMouse {u : State} {b : Bool} (h : s.outSetMouse mode = (u, b)) :
    exec (.outSetMouse mode) s = .next (u.returning b) := by
  simp only [exec, execOutSetMouse, h]

end

/-- Settles O42: the mode tables select or refuse, and the operation returns which. -/
theorem outputSwitchClearsThenFlips : Obligations.OutputSwitchClearsThenFlips := fun s _ =>
  ⟨s.hidClear, rfl,
    fun _ _ hdec hav => exec_outSetKbd (State.outSetKbd_selected (selectKbd_eq_some.2 ⟨hdec, hav⟩)),
    fun hbad => exec_outSetKbd (State.outSetKbd_refused (selectKbd_eq_none hbad)),
    fun _ _ hdec hav => exec_outSetMouse (State.outSetMouse_selected (selectMouse_eq_some.2 ⟨hdec, hav⟩)),
    fun hbad => exec_outSetMouse (State.outSetMouse_refused (selectMouse_eq_none hbad))⟩

/-! ### No stuck keys (rules R257, R258) -/

/-- Both interfaces of `t` are those of `s` cleared, and `ps2_clear` was emitted. -/
structure State.Released (s t : State) : Prop where
  kbd : t.kbd = s.kbd.clear
  mouse : t.mouse = s.mouse.clear
  trace : ∃ es, t.trace = s.trace ++ es ∧ .ps2Clear ∈ es

/-- If `t` has other modes than `s`, everything was released on the way. -/
def State.SwitchReleases (s t : State) : Prop := t.out ≠ s.out → Released s t

namespace State.SwitchReleases

variable {s t : State}

theorem of_out_eq (h : t.out = s.out) : SwitchReleases s t := fun hne => absurd h hne

theorem outSetKbd (s : State) (mode : ModeCode) : SwitchReleases s (s.outSetKbd mode).1 := by
  cases h : selectKbd s.cfg mode with
  | none => rw [State.outSetKbd_refused h]; exact of_out_eq rfl
  | some m => rw [State.outSetKbd_selected h]; exact fun _ => ⟨rfl, rfl, _, rfl, .head _⟩

theorem outSetMouse (s : State) (mode : ModeCode) : SwitchReleases s (s.outSetMouse mode).1 := by
  cases h : selectMouse s.cfg mode with
  | none => rw [State.outSetMouse_refused h]; exact of_out_eq rfl
  | some m => rw [State.outSetMouse_selected h]; exact fun _ => ⟨rfl, rfl, _, rfl, .head _⟩

/-- The response and the reboot request touch no report state. -/
theorem respondAndReboot (h : SwitchReleases s t) (new : NewStatus) (b : Bool) :
    SwitchReleases s ((t.respond new).requestReboot b) := by
  intro hne
  obtain ⟨hkbd, hmouse, es, htrace, hmem⟩ := h hne
  exact ⟨hkbd, hmouse, _, by rw [State.requestReboot_trace, State.respond_trace, htrace, List.append_assoc],
    List.mem_append_left _ hmem⟩

/-- Of the commands only the two mode commands change the modes. -/
theorem handle (s : State) (f : Frame) : SwitchReleases s (s.handle f) :=
  State.handle_rec f (of_out_eq rfl) (of_out_eq rfl) (fun m => (outSetKbd s m).respondAndReboot _ _)
    (fun m => (outSetMouse s m).respondAndReboot _ _) (of_out_eq rfl) (of_out_eq rfl)
    (fun code pressed => of_out_eq (SameControl.routeKey s code pressed).out)
    (fun x y => of_out_eq (SameControl.routeMouse _ _ _ (.hidMabs s x y)).out)
    (fun sel st => of_out_eq (SameControl.routeMouse _ _ _ (.hidMbtn s sel st)).out)
    (fun hz v => of_out_eq (SameControl.routeMouse _ _ _ (.hidMwheel s hz v)).out)
    (fun dx dy => of_out_eq (SameControl.routeMouse _ _ _ (.hidMrel s dx dy)).out) (of_out_eq rfl) (of_out_eq rfl)

theorem linkByte (s : State) (b : Byte) : SwitchReleases s (s.linkByte b) := by
  unfold State.linkByte
  dsimp only
  split
  · exact of_out_eq rfl
  · intro hne
    obtain ⟨hkbd, hmouse, htrace⟩ := handle ((s.storeLinkByte b).setFidx 0) _ hne
    exact ⟨hkbd, hmouse, htrace⟩

/-- Only the four mode instructions and a completed frame have the modes in their footprint. -/
theorem of_exec {i : Instr} (hr : ∀ m, i ≠ .reset m) (h : exec i s = .next t) : SwitchReleases s t := by
  intro hne
  rcases footprint_out (by simpa using mt (exec_within hr h).out hne) with
    ⟨m, rfl | rfl | rfl | rfl⟩ | ⟨⟨b, rfl⟩, -⟩ <;> cases h
  · obtain ⟨hkbd, hmouse, htrace⟩ := outSetKbd s m hne
    exact ⟨hkbd, hmouse, htrace⟩
  · obtain ⟨hkbd, hmouse, htrace⟩ := outSetMouse s m hne
    exact ⟨hkbd, hmouse, htrace⟩
  · exact (outSetKbd s m).respondAndReboot _ _ hne
  · exact (outSetMouse s m).respondAndReboot _ _ hne
  · exact linkByte s b hne

end State.SwitchReleases

/-- Settles O56: whatever changes a mode has released the report state of both interfaces. -/
theorem noKeyIsStuckAcrossAModeSwitch : Obligations.NoKeyIsStuckAcrossAModeSwitch := by
  intro i s t h hr hne
  obtain ⟨hkbd, hmouse, htrace⟩ := State.SwitchReleases.of_exec hr h hne
  simp only [State.memRead, hkbd, hmouse]
  exact ⟨s.kbd.clear_keys, rfl, rfl, rfl, rfl, rfl, rfl, rfl, rfl, rfl, htrace⟩

end Sys2Proof.Machine

/-! PROOFS. The frame validator: sealing and validating, the bytes of a frame, and the silence of a partial frame. -/

namespace Sys2Proof.Machine

/-! ### Sealing and validating (rules R275 to R277) -/

section
variable {c : Config}

/-- Rule R275: the magic byte and the checksum, and nothing else. -/
theorem validate_eq_true_iff {f : Frame} :
    validate c f = true ↔ f[0] = c.reqMagic ∧ frameCk f = cksum16 c (ckBytes f) := by
  rw [validate, Bool.and_eq_true, beq_iff_eq, beq_iff_eq]

/-- The two checksum bytes of a sealed frame, read back, are the checksum of its first six. -/
theorem frameCk_sealFrame (p0 p1 p2 p3 p4 p5 : Byte) :
    frameCk (sealFrame c p0 p1 p2 p3 p4 p5) = cksum16 c (ckBytes (sealFrame c p0 p1 p2 p3 p4 p5)) :=
  hiByte_append_loByte (cksum16 c [p0, p1, p2, p3, p4, p5])

theorem validate_sealFrame {p0 : Byte} (p1 p2 p3 p4 p5 : Byte) (h : p0 = c.reqMagic) :
    validate c (sealFrame c p0 p1 p2 p3 p4 p5) = true :=
  validate_eq_true_iff.2 ⟨h, frameCk_sealFrame p0 p1 p2 p3 p4 p5⟩

theorem cksum16_of_crc16 (h : c.cksum = .crc16) : cksum16 c = crc16 := by
  funext bytes
  rw [cksum16, h]

end

/-- Rule R276's check value on the digits `1` to `9`, and the checksums of the two example frames. -/
theorem crc16_check_values :
    crc16 [0x31, 0x32, 0x33, 0x34, 0x35, 0x36, 0x37, 0x38, 0x39] = 0x4B37 ∧
      crc16 [0x33, 0x01, 0x00, 0x00, 0x00, 0x00] = 0x1838 ∧
      crc16 [0x34, 0x80, 0x09, 0x03, 0x00, 0x00] = 0x2DF6 := by
  simp [crc16, crcByte, crcShift]

/-- Settles O8: the two halves of the checksum join to the checksum, whatever function it is; the check values are
evaluated. -/
theorem sealedFramesValidate : Obligations.SealedFramesValidate :=
  ⟨fun _ => ⟨fun _ p1 p2 p3 p4 p5 => ⟨rfl, validate_sealFrame p1 p2 p3 p4 p5⟩, fun _ => validate_eq_true_iff,
    cksum16_of_crc16⟩, rfl, crc16_check_values⟩

/-! ### A byte of a frame (rules R270, R271) -/

section
variable {s : State}

theorem State.linkByte_stored {i j : Fin 8} (b : Byte) (hi : s.fcv.fidx = i) (hlt : i.val < 7)
    (hj : j.val = i.val + 1) :
    s.linkByte b = { s with fcv := { fbuf := s.fcv.fbuf.set i b, fidx := j, silentMs := 0 } } := by
  subst hi
  have hnext : (⟨s.fcv.fidx.val + 1, by omega⟩ : Fin 8) = j := Fin.ext hj.symm
  rw [State.linkByte, dif_pos hlt, hnext]
  rfl

theorem State.linkByte_eighth (b : Byte) (h7 : s.fcv.fidx = 7) :
    s.linkByte b =
      State.handle { s with fcv := { fbuf := s.fcv.fbuf.set 7 b, fidx := 0, silentMs := 0 } }
        (s.fcv.fbuf.set 7 b) := by
  have hlt : ¬ s.fcv.fidx.val < 7 := by rw [h7]; decide
  rw [State.linkByte, dif_neg hlt]
  simp only [State.storeLinkByte, State.setFidx, State.memWrite, h7]
  rfl

end

/-- Settles O10: the eighth byte hands the frame to `HANDLE`, which is `exec` of the decoded frame and leaves the frame
validator as the byte did. -/
theorem linkByteAccumulatesThenRunsTheFrame : Obligations.LinkByteAccumulatesThenRunsTheFrame := by
  intro s b
  refine ⟨fun i j hi hlt hj => congrArg _ (State.linkByte_stored b hi hlt hj), fun h7 => ?_⟩
  have hexec : exec (.linkByte b) s = .next (s.linkByte b) := rfl
  rw [hexec, State.linkByte_eighth b h7]
  exact ⟨(exec_decodeReq _ _).symm, _, rfl, (State.UsbSide.handle _ _).fcv⟩

/-! ### Silence and bus errors (rules R272 to R274, R307) -/

section
variable {s : State}

theorem State.linkTick_idle (h0 : s.fcv.fidx = 0) : s.linkTick = s := if_pos h0

/-- Below the threshold the count is not yet capped. -/
theorem State.linkTick_counts (h0 : s.fcv.fidx ≠ 0) (hlt : s.fcv.silentMs + 1 < s.cfg.linkTimeoutMs) :
    s.linkTick = { s with fcv := { s.fcv with silentMs := s.fcv.silentMs + 1 } } := by
  have hnext : s.silentNext = s.fcv.silentMs + 1 := min_eq_left hlt.le
  rw [State.linkTick, if_neg h0, hnext, if_neg hlt.not_ge]

theorem State.linkTick_expires (h0 : s.fcv.fidx ≠ 0) (hle : s.cfg.linkTimeoutMs ≤ s.fcv.silentMs + 1) :
    s.linkTick = s.discardFrame.linkTimeout := by
  have hnext : s.silentNext = s.cfg.linkTimeoutMs := min_eq_right hle
  rw [State.linkTick, if_neg h0, hnext, if_pos le_rfl]

/-- Rule R307 field by field: the report state is cleared, and the timeout status is stored and sent. -/
theorem State.linkTimeout_eq : s.linkTimeout =
    { s.hidClear with
      cdr := { s.cdr with prevStatus := s.cfg.st.timeout }
      raised := s.raised ++ [.linkTimeout]
      trace := s.trace ++ [.respOut (s.responseFrame s.cfg.st.timeout)] } := rfl

end

/-- Settles O44: with a partial frame the threshold splits the ticks into those that count and the one that times
out. -/
theorem silenceOrABusErrorDiscardsAPartialFrame : Obligations.SilenceOrABusErrorDiscardsAPartialFrame := by
  intro s
  refine ⟨rfl, fun h0 => congrArg _ (State.linkTick_idle h0), fun h0 hlt => congrArg _ (State.linkTick_counts h0 hlt),
    fun h0 hle => ⟨s.hidClear, rfl, ?_⟩⟩
  have hexec : exec .linkTickMs s = .next s.linkTick := rfl
  rw [hexec, State.linkTick_expires h0 hle, State.linkTimeout_eq]
  rfl

end Sys2Proof.Machine

/-! PROOFS. The link commands: the one response each gives, the flags of its status byte, and the mode commands. -/

namespace Sys2Proof.Machine

/-! ### The response (rules R305, R308, R309) -/

/-- The status is byte 1 of the frame that carries it. -/
@[simp] theorem State.responseFrame_status (s : State) (code : Byte) : (s.responseFrame code)[1] = code := rfl

/-- No flag of the status byte reads the stored status, so a response leaves the next one as it was. -/
@[simp] theorem State.respond_okStatus (s : State) (new : NewStatus) : (s.respond new).okStatus = s.okStatus := rfl

@[simp] theorem State.respond_responseFrame (s : State) (new : NewStatus) (code : Byte) :
    (s.respond new).responseFrame code = s.responseFrame code := rfl

/-- A response field by field. -/
theorem State.respond_eq (s : State) (new : NewStatus) :
    s.respond new =
      { s with
        cdr := { s.cdr with prevStatus := s.responseCode new }
        trace := s.trace ++ [.respOut (s.responseFrame (s.responseCode new))] } := rfl

/-- Settles O51: the second ping finds the flags and the masks of the first, the repeat its stored status. -/
theorem repeatedPingsAnswerIdentically : Obligations.RepeatedPingsAnswerIdentically := by
  rintro s t u v ⟨⟩ ⟨⟩ ⟨⟩
  refine ⟨s.responseFrame s.okStatus, s.responseFrame s.okStatus, s.respond_trace .ok, ?_, ?_, rfl⟩
  · rw [State.cmdPing, State.cmdPing, State.respond_trace (s.respond .ok), State.responseCode,
      State.respond_okStatus, State.respond_responseFrame]
  · rw [State.cmdRepeat, State.cmdPing, State.respond_trace (s.respond .ok), State.responseCode,
      State.respond_responseFrame, State.respond_cdr, State.responseCode]

/-- Settles O46: the four commands are responses on the state they find. -/
theorem statusCommandsAnswer : Obligations.StatusCommandsAnswer := by
  intro s answer hanswer
  have hrespond : ∀ (u : State) (new : NewStatus), u.respond new = answer (u.responseCode new) u :=
    fun u new => (u.respond_eq new).trans (hanswer _ u).symm
  exact ⟨congrArg _ (hrespond s .ok), congrArg _ (hrespond s .ok), congrArg _ (hrespond s .none),
    fun _ => congrArg _ (hrespond (s.raise .invalidCommand) (.code s.cfg.st.invalid))⟩

/-! ### A frame that does not validate (rules R278, R291, R321) -/

theorem validate_eq_false {c : Config} {f : Frame} (h : f[0] ≠ c.reqMagic ∨ frameCk f ≠ cksum16 c (ckBytes f)) :
    validate c f = false := by
  rw [Bool.eq_false_iff, ne_eq, validate_eq_true_iff]
  exact not_and_or.2 h

theorem decodeReq_of_invalid {c : Config} {f : Frame} (h : validate c f = false) : decodeReq c f = .frameInvalid f := by
  rw [decodeReq, h, if_neg (by decide)]

/-- Settles O45: the response is the only effect, and a frame with either fault does not validate. -/
theorem invalidFrameChangesNothingButTheStatus : Obligations.InvalidFrameChangesNothingButTheStatus := fun s _ =>
  ⟨s.responseFrame s.cfg.st.cksumErr,
    congrArg Host.Outcome.next ((s.raise .checksumError).respond_eq (.code s.cfg.st.cksumErr)), rfl,
    fun hbad => decodeReq_of_invalid (validate_eq_false hbad)⟩

/-! ### The mode commands (rules R294, R295, R306) -/

/-- An instruction `j` that answers OK on the state an operation `i` leaves, and then requests the reboot if `i` returned
true, where `i` leaves the response state alone. -/
theorem exec_switch_ping_reboot {s t : State} {i j : Instr} {switched : Bool} (hret : t.ret = s.ret)
    (hcdr : t.cdr = s.cdr) (hi : exec i s = .next (t.returning switched))
    (hj : exec j s = .next ((t.respond .ok).requestReboot switched)) :
    ∃ u v, exec i s = .next u ∧ exec .cmdPing { u with ret := s.ret } = .next v ∧
      exec j s = .next { v with cdr := { v.cdr with rebootReq := s.cdr.rebootReq || u.ret == some true } } := by
  have hping : ({ t.returning switched with ret := s.ret } : State) = t := by rw [← hret]; rfl
  refine ⟨_, t.respond .ok, hi, by rw [hping]; rfl, hj.trans ?_⟩
  have hbit : ((t.returning switched).ret == some true) = switched := by cases switched <;> rfl
  rw [hbit, ← hcdr]
  rfl

/-- Settles O48: both mode commands are built on their output switch in the same way. -/
theorem modeCommandsSwitchThenRequestReboot : Obligations.ModeCommandsSwitchThenRequestReboot := fun s mode =>
  ⟨exec_switch_ping_reboot (State.UsbSide.outSetKbd s mode).ret (s.outSetKbd_cdr mode) rfl rfl,
    exec_switch_ping_reboot (State.UsbSide.outSetMouse s mode).ret (s.outSetMouse_cdr mode) rfl rfl⟩

/-! ### The flags of the status byte (rules R125, R260, R304) -/

theorem and_eq_zero_of_singleBits : ∀ a ∈ singleBits, ∀ b ∈ singleBits, a ≠ b → a &&& b = 0 := by decide

theorem ne_zero_of_singleBits : ∀ a ∈ singleBits, a ≠ 0 := by decide

/-- The four flag masks share no bit. -/
theorem StatusCodes.masks_disjoint {t : StatusCodes} (h : t.Wf) :
    (t.ok &&& t.resetReq = 0 ∧ t.ok &&& t.mouseOffline = 0 ∧ t.ok &&& t.kbdOffline = 0) ∧
      (t.resetReq &&& t.mouseOffline = 0 ∧ t.resetReq &&& t.kbdOffline = 0) ∧ t.mouseOffline &&& t.kbdOffline = 0 := by
  obtain ⟨-, -, hnodup, hbits, -⟩ := h
  have hpair : [t.ok, t.resetReq, t.mouseOffline, t.kbdOffline].Pairwise fun a b => a &&& b = 0 :=
    hnodup.imp_of_mem fun ha hb => and_eq_zero_of_singleBits _ (hbits _ ha) _ (hbits _ hb)
  simpa using hpair

theorem StatusCodes.ok_eq {t : StatusCodes} (h : t.Wf) : t.ok = 0x80 := by
  obtain ⟨-, -, -, -, hok⟩ := h
  exact hok

theorem StatusCodes.masks_ne_zero {t : StatusCodes} (h : t.Wf) :
    t.resetReq ≠ 0 ∧ t.mouseOffline ≠ 0 ∧ t.kbdOffline ≠ 0 := by
  obtain ⟨-, -, -, hbits, -⟩ := h
  exact ⟨ne_zero_of_singleBits _ (hbits _ (.tail _ (.head _))),
    ne_zero_of_singleBits _ (hbits _ (.tail _ (.tail _ (.head _)))),
    ne_zero_of_singleBits _ (hbits _ (.tail _ (.tail _ (.tail _ (.head _)))))⟩

@[simp] theorem maskIf_zero (b : Bool) : maskIf b 0#8 = 0#8 := ite_self _

theorem maskIf_and (b : Bool) (m v : Byte) : maskIf b m &&& v = maskIf b (m &&& v) := by
  cases b
  · exact BitVec.zero_and
  · rfl

theorem getElem_maskIf (b : Bool) (m : Byte) {i : Nat} (hi : i < 8) : (maskIf b m)[i] = (b && m[i]) := by
  cases b
  · exact BitVec.getElem_zero hi
  · rfl

theorem maskIf_ne_zero_iff {b : Bool} {m : Byte} (hm : m ≠ 0) : maskIf b m ≠ 0 ↔ b = true := by
  cases b
  · simp [maskIf]
  · simpa [maskIf] using hm

/-- What a mask reads off the status byte, flag by flag. -/
theorem State.okStatus_and (s : State) (v : Byte) :
    s.okStatus &&& v =
      (s.cfg.st.ok &&& v) ||| maskIf s.cdr.rebootReq (s.cfg.st.resetReq &&& v) |||
        maskIf s.mouseOffline (s.cfg.st.mouseOffline &&& v) ||| maskIf s.kbdOffline (s.cfg.st.kbdOffline &&& v) := by
  simp only [State.okStatus, BitVec.and_or_distrib_right, maskIf_and]

/-- Each mask reads its own flag, for it shares no bit with the others. -/
theorem State.okStatus_and_mask {s : State} (h : s.cfg.st.Wf) :
    s.okStatus &&& s.cfg.st.resetReq = maskIf s.cdr.rebootReq s.cfg.st.resetReq ∧
      s.okStatus &&& s.cfg.st.mouseOffline = maskIf s.mouseOffline s.cfg.st.mouseOffline ∧
      s.okStatus &&& s.cfg.st.kbdOffline = maskIf s.kbdOffline s.cfg.st.kbdOffline := by
  obtain ⟨⟨hor, hom, hokb⟩, ⟨hrm, hrk⟩, hmk⟩ := StatusCodes.masks_disjoint h
  have hmr := (BitVec.and_comm _ _).trans hrm
  have hkr := (BitVec.and_comm _ _).trans hrk
  have hkm := (BitVec.and_comm _ _).trans hmk
  simp [State.okStatus_and, hor, hom, hokb, hrm, hrk, hmk, hmr, hkr, hkm]

/-- No other bit is set: bit by bit, a flag that is set is a bit of its mask. -/
theorem State.okStatus_and_not_masks (s : State) :
    s.okStatus &&&
      ~~~(s.cfg.st.ok ||| s.cfg.st.resetReq ||| s.cfg.st.mouseOffline ||| s.cfg.st.kbdOffline) = 0 := by
  ext i hi
  simp only [State.okStatus, BitVec.getElem_and, BitVec.getElem_or, BitVec.getElem_not, getElem_maskIf]
  grind

theorem State.mouseOffline_eq_true_iff {s : State} : s.mouseOffline = true ↔
    (s.out.mouseMode = .usbAbs ∨ s.out.mouseMode = .usbRel ∨ s.out.mouseMode = .usbLegacyAbs) ∧
      s.mouse.online = false := by
  rw [State.mouseOffline, Bool.and_eq_true, usbMouse_eq_true_iff, Bool.not_eq_true']

theorem State.kbdOffline_eq_true_iff {s : State} :
    s.kbdOffline = true ↔ s.out.kbdMode = .usb ∧ s.kbd.online = false := by
  rw [State.kbdOffline, Bool.and_eq_true, beq_iff_eq, Bool.not_eq_true']

/-- Settles O47: each mask reads its own flag off the status byte, and the masks hold every bit that is set. -/
theorem statusFlagsTellRebootAndOffline : Obligations.StatusFlagsTellRebootAndOffline := by
  intro s h
  obtain ⟨hreset, hmouse, hkbd⟩ := State.okStatus_and_mask h
  obtain ⟨hr0, hm0, hk0⟩ := StatusCodes.masks_ne_zero h
  rw [hreset, hmouse, hkbd]
  exact ⟨State.okStatus_bit7 (StatusCodes.ok_eq h), maskIf_ne_zero_iff hr0,
    (maskIf_ne_zero_iff hm0).trans State.mouseOffline_eq_true_iff,
    (maskIf_ne_zero_iff hk0).trans State.kbdOffline_eq_true_iff, s.okStatus_and_not_masks⟩

/-! ### One response, last (rule R290) -/

theorem responses_append (es fs : List Event) : responses (es ++ fs) = responses es + responses fs := by
  induction es with
  | nil => exact (Nat.zero_add _).symm
  | cons e es ih => cases e <;> simp only [List.cons_append, responses, ih, Nat.add_right_comm]

/-- `t` has the events of `s` and more, none of them a response. -/
def State.Unanswered (s t : State) : Prop := ∃ es, t.trace = s.trace ++ es ∧ responses es = 0

/-- `t` has the events of `s` and more: exactly one response, the last of them, whose status `t` stores. -/
def State.AnsweredOnce (s t : State) : Prop :=
  ∃ es, t.trace = s.trace ++ es ∧ responses es = 1 ∧
    ∃ f, es.getLast? = some (.respOut f) ∧ f[1] = t.cdr.prevStatus

/-- A response to whatever answered nothing. -/
theorem State.AnsweredOnce.respond {s t : State} (h : Unanswered s t) (new : NewStatus) :
    AnsweredOnce s (t.respond new) := by
  obtain ⟨es, htrace, hnone⟩ := h
  refine ⟨es ++ [.respOut (t.responseFrame (t.responseCode new))], ?_, ?_, _, List.getLast?_concat, rfl⟩
  · rw [State.respond_trace, htrace, List.append_assoc]
  · rw [responses_append, hnone]
    rfl

namespace State.Unanswered

variable {s : State}

theorem of_trace_eq {t : State} (h : t.trace = s.trace) : Unanswered s t := ⟨[], by simp [h], rfl⟩

theorem refl : Unanswered s s := of_trace_eq rfl

theorem emit {e : Event} (h : responses [e] = 0) : Unanswered s (s.emit e) := ⟨[e], rfl, h⟩

theorem outSetKbd (mode : ModeCode) : Unanswered s (s.outSetKbd mode).1 := by
  cases h : selectKbd s.cfg mode with
  | none => rw [State.outSetKbd_refused h]; exact of_trace_eq rfl
  | some m => rw [State.outSetKbd_selected h]; exact ⟨_, s.switchKbd_trace m, rfl⟩

theorem outSetMouse (mode : ModeCode) : Unanswered s (s.outSetMouse mode).1 := by
  cases h : selectMouse s.cfg mode with
  | none => rw [State.outSetMouse_refused h]; exact of_trace_eq rfl
  | some m => rw [State.outSetMouse_selected h]; exact ⟨_, s.switchMouse_trace m, rfl⟩

theorem hidKey (code : Byte) (pressed : Bool) : Unanswered s (s.hidKey code pressed) :=
  ite_of refl (ite_of refl (ite_of (of_trace_eq rfl) (of_trace_eq rfl)))

theorem hidMbtn (sel st : Byte) : Unanswered s (s.hidMbtn sel st) := ite_of (of_trace_eq rfl) refl

theorem hidMabs (x y : Half) : Unanswered s (s.hidMabs x y) := ite_of (of_trace_eq rfl) refl

theorem hidMrel (dx dy : Byte) : Unanswered s (s.hidMrel dx dy) := ite_of (of_trace_eq rfl) refl

theorem hidMwheel (hz v : Byte) : Unanswered s (s.hidMwheel hz v) := ite_of (of_trace_eq rfl) refl

theorem routeKey (code : Byte) (pressed : Bool) : Unanswered s (s.routeKey code pressed) := by
  cases h : s.out.kbdMode with
  | none => rw [State.routeKey_none h]; exact refl
  | usb => rw [State.routeKey_usb h]; exact hidKey code pressed
  | ps2 => rw [State.routeKey_ps2 h]; exact emit rfl

theorem routeMouse {usb : State} (kind : MouseKind) (a b : Half) (h : Unanswered s usb) :
    Unanswered s (s.routeMouse kind a b usb) :=
  ite_of (emit rfl) h

end State.Unanswered

/-- An instruction that stays on the USB side and answers once completes with one response. -/
theorem exec_completes {i : Instr} {s t : State} (hexec : exec i s = .next t) (hside : State.UsbSide s t)
    (hanswer : State.AnsweredOnce s t) :
    ∃ t es, exec i s = .next t ∧ t.trace = s.trace ++ es ∧ responses es = 1 ∧ t.phy0 = s.phy0 ∧ t.phy1 = s.phy1 ∧
      t.fcv = s.fcv ∧ ∃ f, es.getLast? = some (.respOut f) ∧ f[1] = t.cdr.prevStatus := by
  obtain ⟨es, htrace, hone, hlast⟩ := hanswer
  exact ⟨t, es, hexec, htrace, hone, hside.phy0, hside.phy1, hside.fcv, hlast⟩

/-- Settles O50: every command hands its operands on without an answer and then responds. -/
theorem everyCommandCompletesWithOneResponse : Obligations.EveryCommandCompletesWithOneResponse := by
  rintro s i (⟨m, rfl | rfl⟩ | ⟨code, pressed, rfl⟩ | ⟨x, y, rfl⟩ | ⟨a, b, rfl | rfl | rfl⟩ | ⟨cmd, rfl⟩ | ⟨f, rfl⟩ |
    rfl | rfl | rfl | rfl)
  · exact exec_completes rfl (.cmdSetKbd s m) (.respond (.outSetKbd m) .ok)
  · exact exec_completes rfl (.cmdSetMouse s m) (.respond (.outSetMouse m) .ok)
  · exact exec_completes rfl (.cmdKey s code pressed) (.respond (.routeKey code pressed) .ok)
  · exact exec_completes rfl (.cmdMouseAbs s x y) (.respond (.routeMouse _ _ _ (.hidMabs x y)) .ok)
  · exact exec_completes rfl (.cmdMouseBtn s a b) (.respond (.routeMouse _ _ _ (.hidMbtn a b)) .ok)
  · exact exec_completes rfl (.cmdMouseWheel s a b) (.respond (.routeMouse _ _ _ (.hidMwheel a b)) .ok)
  · exact exec_completes rfl (.cmdMouseRel s a b) (.respond (.routeMouse _ _ _ (.hidMrel a b)) .ok)
  · exact exec_completes rfl (.cmdUnknown s) (.respond (.of_trace_eq rfl) _)
  · exact exec_completes rfl (.frameInvalid s) (.respond (.of_trace_eq rfl) _)
  · exact exec_completes rfl (.respond s .ok) (.respond .refl .ok)
  · exact exec_completes rfl (.respond s .none) (.respond .refl .none)
  · exact exec_completes rfl (.respond s .ok) (.respond .refl .ok)
  · exact exec_completes rfl (.cmdClearHid s) (.respond (.of_trace_eq rfl) .ok)

end Sys2Proof.Machine

/-! PROOFS. The block never stops, what `PS2_ENQ` does to an initialised line, and the registers after `RESET`. -/

namespace Sys2Proof.Machine

/-! ### No step stops the block (rule R320) -/

/-- Of a machine whose every step completes and keeps `P`, any number of steps complete and keep `P`. -/
theorem run_of_step_keeps {M : Host.Core} {P : M.State → Prop} (hstep : ∀ s, P s → ∃ t, M.step s = .next t ∧ P t)
    (n : Nat) {s : M.State} (hs : P s) : ∃ t, M.run n s = .next t ∧ P t := by
  induction n generalizing s with
  | zero => exact ⟨s, rfl, hs⟩
  | succ n ih =>
    obtain ⟨t, ht, hPt⟩ := hstep s hs
    obtain ⟨u, hu, hPu⟩ := ih hPt
    refine ⟨u, ?_, hPu⟩
    rw [Host.Core.run, ht]
    exact hu

/-- An engine slot completes: the range of the slot counter, part of the invariant, leaves no slot without a rule. -/
theorem State.Inv.exec_engStep_completes {s : State} (h : s.Inv) (d : Dev) (hClk hData : Bool) :
    ∃ t, exec (.engStep d hClk hData) s = .next t := by
  cases hi : (s.phy d).inited with
  | false => exact ⟨s, exec_engStep_uninit hClk hData hi⟩
  | true =>
    obtain ⟨-, -, -, -, heng, -⟩ := (h.live hi).inv
    obtain ⟨o, ho⟩ := engSlot_isSome d hClk hData heng
    exact ⟨_, exec_engStep hi ho⟩

theorem exec_ps2Enq_init {s : State} {d : Dev} (b : Byte) (hi : (s.phy d).inited = true) :
    exec (.ps2Enq d b) s = .next (s.enqueue d b) := if_pos hi

theorem exec_ps2Task_init {s : State} {d : Dev} (hi : (s.phy d).inited = true) :
    exec (.ps2Task d) s = .next ((s.applyPhy d (taskHead s.cfg d (s.phy d))).taskReceive d) := if_pos hi

theorem exec_ps2Enq_completes (s : State) (d : Dev) (b : Byte) : ∃ t, exec (.ps2Enq d b) s = .next t := by
  cases hi : (s.phy d).inited with
  | false => exact ⟨_, exec_ps2Enq_uninit b hi⟩
  | true => exact ⟨_, exec_ps2Enq_init b hi⟩

theorem exec_ps2Task_completes (s : State) (d : Dev) : ∃ t, exec (.ps2Task d) s = .next t := by
  cases hi : (s.phy d).inited with
  | false => exact ⟨_, exec_ps2Task_uninit hi⟩
  | true => exact ⟨_, exec_ps2Task_init hi⟩

/-- Every operation word completes; the engine slot alone needs the invariant for it. -/
theorem State.Inv.exec_decodeOpw_completes {s : State} (h : s.Inv) (w : OpWord) :
    ∃ t, exec (decodeOpw w) s = .next t :=
  decodeOpw_rec (P := fun i => ∃ t, exec i s = .next t) w (ps2Init := fun _ => ⟨_, rfl⟩)
    (ps2Enq := exec_ps2Enq_completes s) (ps2Task := exec_ps2Task_completes s) (engStep := h.exec_engStep_completes)
    (hidKey := fun _ _ => ⟨_, rfl⟩) (hidMbtn := fun _ _ => ⟨_, rfl⟩) (hidMabs := fun _ _ => ⟨_, rfl⟩)
    (hidMrel := fun _ _ => ⟨_, rfl⟩) (hidMwheel := fun _ _ => ⟨_, rfl⟩) (hidClear := ⟨_, rfl⟩)
    (hidTickMs := fun _ _ => ⟨_, rfl⟩) (hidSync := fun _ _ _ _ _ => ⟨_, rfl⟩) (linkByte := fun _ => ⟨_, rfl⟩)
    (linkTickMs := ⟨_, rfl⟩) (outSetKbd := fun _ => ⟨_, rfl⟩) (outSetMouse := fun _ => ⟨_, rfl⟩)
    (linkResync := ⟨_, rfl⟩) (reset := fun _ => ⟨_, rfl⟩) (reserved := fun _ hi => ⟨s, hi s⟩)

/-- From a state of the invariant a step completes, with a word on the port or without one. -/
theorem State.Inv.safe {s : State} (h : s.Inv) : s.Safe := by
  cases hport : s.port with
  | nil => exact ⟨s, step_of_port_nil hport⟩
  | cons w rest =>
    obtain ⟨t, ht⟩ := (h.takeWord rest).exec_decodeOpw_completes w
    exact ⟨t, (step_of_port_cons hport).trans ht⟩

/-- From a state of the invariant a step completes in a state of the invariant. -/
theorem State.Inv.step_completes {s : State} (h : s.Inv) : ∃ t, step s = .next t ∧ t.Inv := by
  obtain ⟨t, ht⟩ := h.safe
  exact ⟨t, ht, stepKeepsTheStateInvariant s t h ht⟩

/-- Settles O60: a step completes and keeps the invariant, so by induction any number of steps do. -/
theorem noStepEverStopsTheBlock : Obligations.NoStepEverStopsTheBlock := fun _ h =>
  ⟨h.safe, fun n => run_of_step_keeps (M := core) (P := State.Inv) (fun _ => State.Inv.step_completes) n h⟩

/-! ### The byte queue (rules R182, R330) -/

theorem State.enqueue_of_lt {s : State} {d : Dev} (b : Byte) (h : (s.phy d).byteq.length < s.cfg.byteqDepth) :
    s.enqueue d b = (s.setPhy d { s.phy d with byteq := (s.phy d).byteq ++ [b] }).returning true := by
  rw [State.enqueue, pushed_of_lt b h, pushOk_of_lt h]
  rfl

theorem State.enqueue_of_le {s : State} {d : Dev} (b : Byte) (h : s.cfg.byteqDepth ≤ (s.phy d).byteq.length) :
    s.enqueue d b = (s.raise (.byteQueueFull d)).returning false := by
  rw [State.enqueue, pushed_of_le b h, pushOk_of_le h, State.setPhy_phy_eq]
  rfl

/-- Settles O21: the two answers of the bounded queue. -/
theorem enqueueAppendsOrDrops : Obligations.EnqueueAppendsOrDrops := fun s _ b hi =>
  ⟨fun hroom => (exec_ps2Enq_init b hi).trans (congrArg _ (s.enqueue_of_lt b hroom)),
    fun hfull => (exec_ps2Enq_init b hi).trans (congrArg _ (s.enqueue_of_le b hfull))⟩

/-! ### Reset (rules R360, R361) -/

/-- The keyboard mode of a boot mask is the one its field selects. -/
theorem bootKbd_of_selected {c : Config} {m : Byte} {k : KbdMode}
    (h : selectKbd c (m.extractLsb' c.layout.kbdLo 3) = some k) : bootKbd c m = k := by
  rw [bootKbd, h, Option.getD_some]

theorem bootKbd_of_refused {c : Config} {m : Byte} (h : selectKbd c (m.extractLsb' c.layout.kbdLo 3) = none) :
    bootKbd c m = .none := by
  rw [bootKbd, h, Option.getD_none]

/-- The mouse mode of a boot mask is the one its field selects. -/
theorem bootMouse_of_selected {c : Config} {m : Byte} {k : MouseMode}
    (h : selectMouse c (m.extractLsb' c.layout.mouseLo 3) = some k) : bootMouse c m = k := by
  rw [bootMouse, h, Option.getD_some]

theorem bootMouse_of_refused {c : Config} {m : Byte} (h : selectMouse c (m.extractLsb' c.layout.mouseLo 3) = none) :
    bootMouse c m = .none := by
  rw [bootMouse, h, Option.getD_none]

/-- Settles O52: the registers are those of the reset block, and its two modes those the fields of the mask select. -/
theorem resetPutsEveryRegisterAtItsValue : Obligations.ResetPutsEveryRegisterAtItsValue := fun s m =>
  ⟨s.resetBlock m, rfl, rfl, rfl, rfl, rfl, rfl, rfl,
    fun _ hdec hav => bootKbd_of_selected (selectKbd_eq_some.2 ⟨hdec, hav⟩),
    fun hbad => bootKbd_of_refused (selectKbd_eq_none hbad),
    fun _ hdec hav => bootMouse_of_selected (selectMouse_eq_some.2 ⟨hdec, hav⟩),
    fun hbad => bootMouse_of_refused (selectMouse_eq_none hbad), rfl, rfl, rfl, rfl, rfl⟩

end Sys2Proof.Machine
